-- ==== Sys2Proof/Word.lean ====
section
/-! DEFINITION. The widths the spec computes in (00_scope.md R13). -/

namespace Sys2Proof

/-- A `u8`: one frame byte, one BUF cell, one 8-bit field. -/
abbrev Byte := BitVec 8

/-- A `u16`: one DEVICE register, one WBUF cell, one CRC. -/
abbrev Word := BitVec 16

/-- A host register: every HOST index holds 32 bits (10_state.md R21). -/
abbrev Reg := BitVec 32

end Sys2Proof
end

