-- ==== Sys2Proof/Config.lean ====
section
/-! DEFINITION. What the block's implementation fixes (00_scope.md R11), and the free value. -/

namespace Sys2Proof.Config

/-- BUF_CAP, in bytes (R11, R37). -/
abbrev bufCap : Nat := 264

/-- WBUF_CAP, in words (R11, R39). -/
abbrev wbufCap : Nat := 128

/-- TXBUF_CAP, in bytes (R11, R40). -/
abbrev txbufCap : Nat := 263

/-- RXBUF_CAP, in bytes (R11, R40). -/
abbrev rxbufCap : Nat := 259

/-- MAX_COUNT, the most registers one transaction moves (R11, R151). -/
abbrev maxCount : Nat := 127

/-- Channels, numbered 1 to `channels` (R11). -/
abbrev channels : Nat := 32

/-- The reset value of CFG_IFD_MS (R29). -/
def ifdMs : Word := 50

/-- The reset value of CFG_POLL_RETRIES (R30). -/
def pollRetries : Byte := 10

/-- The reset value of CFG_POLL_INTERVAL_MS (R30). -/
def pollIntervalMs : Word := 10

/-- The reset value of CFG_TIMEOUT_MS (R31). -/
def timeoutMs : Word := 1000

/-- THE FREE VALUE (log 2, log 3). What a read of HOST index `index` gives where 10_state.md R47 and
20_memory.md R63 say "an arbitrary value": a cell that nothing has written, or an unmapped index. `draw`
is State's counter of inputs taken, so that two reads need not agree. No body: nothing is known of it. -/
opaque draw (draw index : Nat) : Reg

end Sys2Proof.Config
end

