-- ==== Sys2Proof/Syntax.lean ====
section
/-! DEFINITION. The instructions: one constructor per row of spec/opcode_table.json. The first 27 are the
commands of 30_encoding.md R82 with the operands R82 gives them (a dash field is no operand, R83). The last 4
are the wire frames of R89 and R90. -/

namespace Sys2Proof

inductive Instr where
  -- 40_crc.md
  | crcCalc (n : Word)
  | crcVerify (n : Word)
  | crcAppend (n : Word)
  -- 41_rtu_frame.md
  | frameReadReq (unit : Byte) (start count : Word)
  | frameWriteReq (unit : Byte) (start count : Word)
  | frameReadRsp (unit : Byte) (count : Word)
  | frameWriteRsp (unit : Byte)
  -- 42_rtu_transaction.md
  | readHolding (unit : Byte) (start count : Word)
  | writeMultiple (unit : Byte) (start count : Word)
  -- 43_codecs.md
  | voltDecode (raw : Word)
  | voltEncode (uv : Reg)
  | thrDecode (raw : Word)
  | thrEncode (uv : Reg)
  | baudDecode (code : Word)
  | baudEncode (rate : Reg)
  | maskDecode (high low : Word)
  | textDecode (n : Byte)
  -- 44_device_ops.md
  | regLookup (id : Byte)
  | readAllVoltages
  | readSingleVoltage (channel : Byte)
  | readSnapshot
  | writeDeviceAddress (address : Word)
  | writeBaudRate (rate : Reg)
  | writeIoDirection (value : Word)
  | writeIoValue (value : Word)
  | writeSetTemperature (value : Word)
  | writeDropThreshold (channel : Byte) (uv : Reg)
  /-- A frame `[unit, 0x03, body.., crc_lo, crc_hi]` (R90): a read request, or a normal reply to one. -/
  | rtuReadHoldingRegisters (unit : Byte) (body : List Byte) (crc : Word)
  /-- A frame `[unit, 0x83, code, crc_lo, crc_hi]` (R90). -/
  | rtuReadException (unit code : Byte) (crc : Word)
  /-- A frame `[unit, 0x10, body.., crc_lo, crc_hi]` (R90): a write request, or a normal reply to one. -/
  | rtuWriteMultipleRegisters (unit : Byte) (body : List Byte) (crc : Word)
  /-- A frame `[unit, 0x90, code, crc_lo, crc_hi]` (R90). -/
  | rtuWriteException (unit code : Byte) (crc : Word)
  deriving DecidableEq, Repr

end Sys2Proof
end

