-- ==== Sys2Proof/Machine/State.lean ====
section
/-! DEFINITION. The state of the block (10_state.md), of the link agent (R48) and of the inputs still to come, as plain
data; the reasons a step can stop; the state after reset (70_reset_and_hazards.md R280, R281). -/

namespace Sys2Proof.Machine

/-- Why the machine stops with a fault. There is no constructor: no behaviour of the spec stops the block (a
command error is recorded in STATUS, 60_exceptions.md R256; host misuse is recorded in FAULT, R261). Safe. -/
inductive Fault where
  deriving DecidableEq, Repr

/-- Why the machine refuses an instruction. -/
inductive Refusal where
  /-- Raised by an arm of `exec` whose instruction has no meaning yet; no arm does. Safe. -/
  | notModelled (mnemonic : String)
  deriving DecidableEq, Repr

/-- Cells that hold a value, in the one canonical form: strictly rising addresses. An unlisted cell holds no
value (R47), so no entry can equal what an unlisted cell holds. -/
abbrev Store (w : Nat) := List (Nat × BitVec w)

/-- Byte cells: BUF, TXBUF and RXBUF. -/
abbrev Memory := List Host.Cell

/-- STATUS.STATE (R26, 42_rtu_transaction.md R150). Register values 4 to 15 never occur. -/
inductive TxnState where
  | idle | sending | awaiting | validating
  deriving DecidableEq, Repr

/-- The (kind, reason) pairs of 60_exceptions.md R251, by the names it gives the reasons. -/
inductive CmdError where
  /-- ConnectionError 1 -/ | notOpen
  /-- ConnectionError 2 -/ | sendFailed
  /-- FramingError 1 -/ | crcMismatch
  /-- ProtocolMismatchError 1 -/ | address
  /-- ProtocolMismatchError 2 -/ | functionCode
  /-- ProtocolMismatchError 3 -/ | byteCount
  /-- DeviceExceptionError 1 -/ | exception
  /-- TimeoutError 1 -/ | replyIncomplete
  /-- RangeError 1 -/ | channel
  /-- RangeError 2 -/ | deviceAddress
  /-- RangeError 3 -/ | baud
  /-- RangeError 4 -/ | count
  /-- RangeError 5 -/ | value
  /-- RangeError 6 -/ | registerId
  /-- UnsupportedValueError 1 -/ | baudUnsupported
  /-- InputSizeError 1 -/ | lengthExceedsData
  /-- InputSizeError 2 -/ | capacity
  /-- IllegalCommand 1 -/ | unassignedOpcode
  /-- IllegalCommand 2 -/ | sessionUnitUnset
  deriving DecidableEq, Repr

/-- STATUS (R26). `err` is ERR_KIND and ERR_REASON together, `none` for 0 and 0 (log 14). -/
structure Status where
  state : TxnState
  busy : Bool
  done : Bool
  ok : Bool
  allFf : Bool
  err : Option CmdError
  excCode : Byte
  retriesLeft : Byte
  deriving DecidableEq, Repr

/-- FAULT (R27). -/
structure FaultBits where
  cmdOverrun : Bool
  busyWrite : Bool
  badAccess : Bool
  deriving DecidableEq, Repr

/-- SESSION_UNIT (R28). -/
structure Session where
  unit : Byte
  valid : Bool
  deriving DecidableEq, Repr

/-- The four CFG registers (R29 to R31). -/
structure Cfg where
  ifdMs : Word
  pollRetries : Byte
  pollIntervalMs : Word
  timeoutMs : Word
  deriving DecidableEq, Repr

/-- SEQ (R35). -/
structure Seq where
  idx : Byte
  total : Byte
  deriving DecidableEq, Repr

/-- One entry of the VR bank (R43). Its fields other than `valid` hold no value while `valid` is false. -/
structure VrEntry where
  valid : Bool
  raw : Word
  uv : Reg
  unit : Byte
  tsLo : Reg
  tsHi : Reg
  deriving DecidableEq, Repr

/-- The SNAP bank (R44). `written` says that a snapshot has been committed since reset: until then the fields
other than `online` hold no value (R47, R235). -/
structure Snapshot where
  written : Bool
  online : Bool
  addr : Word
  versionRaw : Word
  baudCode : Word
  baud : Reg
  ioDir : Word
  ioVal : Word
  dropMask : Reg
  setTemp : Word
  curTemp : Word
  fanMa : Word
  acRaw : Word
  acOn : Bool
  nameLen : BitVec 7
  nameAllFf : Bool
  serialLen : BitVec 6
  serialAllFf : Bool
  tsLo : Reg
  tsHi : Reg
  nameW : Vector Word 32
  serialW : Vector Word 31
  deriving DecidableEq, Repr

/-- CUR, the latched command (R41). -/
structure Latched where
  opc : Byte
  a : Byte
  b : Word
  arg : Reg
  deriving DecidableEq, Repr

/-- TR, the transaction in flight (R42). -/
structure Tr where
  fc : Byte
  unit : Byte
  start : Word
  count : Word
  r : Byte
  deriving DecidableEq, Repr

/-- A transaction descriptor `TD = (fc, u, s, c, v)` (42_rtu_transaction.md R151). -/
structure TxnDesc where
  fc : Byte
  unit : Byte
  start : Word
  count : Word
  values : List Word
  deriving DecidableEq, Repr

/-- The link agent (R48): OPEN, whether the transport would refuse a write (20_memory.md R72), TXQ and RXQ, the
oldest byte first; and `cut`, the model's own (log 26): the stream has closed while the block was polling for the reply
to the request last sent, so that no more bytes of it arrive (42_rtu_transaction.md R168). -/
structure Link where
  isOpen : Bool
  refuses : Bool
  txq : List Byte
  rxq : List Byte
  cut : Bool := false
  deriving DecidableEq, Repr

/-- One turn of an agent (00_scope.md R9; log 4). -/
inductive Input where
  /-- The host writes a HOST register (R21). -/
  | hostWrite (index : BitVec 12) (value : Reg)
  /-- The host reads a HOST register (R21). -/
  | hostRead (index : BitVec 12)
  /-- The block takes a step, if one is enabled (R299). -/
  | block
  /-- The host environment asserts reset (R280). -/
  | reset
  /-- Bytes reach the link, which appends them to RXQ (R48) unless the stream is cut (R168). -/
  | linkReceive (bytes : List Byte)
  /-- The link sends the oldest `n` bytes of TXQ (R48). -/
  | linkDrain (n : Nat)
  /-- The link changes OPEN (R48). -/
  | linkOpen (isOpen : Bool)
  /-- The transport begins or ceases to refuse writes (20_memory.md R72). -/
  | linkRefuse (refuses : Bool)
  /-- The host environment changes TIME (R45). -/
  | setTime (time : BitVec 64)
  deriving DecidableEq, Repr

/-- Everything the spec gives the machine, and the inputs still to come. -/
structure State where
  /-- CMD (R24). -/
  cmd : Reg
  /-- ARG (R25). -/
  arg : Reg
  /-- STATUS (R26). -/
  status : Status
  /-- RESULT (R23). -/
  result : Reg
  /-- RESULT has been written since reset (R47). -/
  resultWritten : Bool
  /-- FAULT (R27). -/
  fault : FaultBits
  /-- SESSION_UNIT (R28). -/
  session : Session
  /-- The CFG registers (R29 to R31). -/
  cfg : Cfg
  /-- BUF_LEN (R33). -/
  bufLen : BitVec 9
  /-- TX_LEN (R34). -/
  txLen : BitVec 9
  /-- RX_COUNT (R34). -/
  rxCount : BitVec 9
  /-- SEQ (R35). -/
  seq : Seq
  /-- BUF, by cell number (R37). -/
  buf : Memory
  /-- WBUF, by cell number (R39). -/
  wbuf : Store 16
  /-- TXBUF, by cell number (R40). -/
  txbuf : Memory
  /-- RXBUF, by cell number (R40). -/
  rxbuf : Memory
  /-- The VR bank: entry `c - 1` is channel `c` (R43). -/
  vr : Vector VrEntry 32
  /-- The SNAP bank (R44). -/
  snap : Snapshot
  /-- CUR (R41). -/
  cur : Latched
  /-- U (R41). -/
  unit : Byte
  /-- TR (R42). -/
  tr : Tr
  /-- TD, the running command's descriptor list (R151, R217). -/
  td : List TxnDesc
  /-- STAGE: entry `k` holds the words of transaction `k` (R42, R219). -/
  stage : List (List Word)
  /-- The link agent (R48). -/
  link : Link
  /-- TIME (R45). -/
  time : BitVec 64
  /-- What the last host read returned (the model's own, log 15). -/
  rdata : Reg
  /-- How many inputs have been taken: the counter the free values are applied to (the model's own, log 3). -/
  draws : Nat
  /-- The turns still to come, the next one first (the model's own, log 4). -/
  inputs : List Input
  deriving DecidableEq, Repr

/-- STATUS after reset (R281). -/
def Status.reset : Status :=
  { state := .idle, busy := false, done := false, ok := false, allFf := false, err := none,
    excCode := 0, retriesLeft := 0 }

/-- A VR entry after reset: VR_VALID 0 (R280); the other fields as log 1 names them. -/
def VrEntry.reset : VrEntry :=
  { valid := false, raw := 0, uv := 0, unit := 0, tsLo := 0, tsHi := 0 }

/-- The SNAP bank after reset: SNAP_ONLINE 0 (R280); the other fields as log 1 names them. -/
def Snapshot.reset : Snapshot :=
  { written := false, online := false, addr := 0, versionRaw := 0, baudCode := 0, baud := 0, ioDir := 0,
    ioVal := 0, dropMask := 0, setTemp := 0, curTemp := 0, fanMa := 0, acRaw := 0, acOn := false,
    nameLen := 0, nameAllFf := false, serialLen := 0, serialAllFf := false, tsLo := 0, tsHi := 0,
    nameW := Vector.replicate 32 0, serialW := Vector.replicate 31 0 }

/-- The machine right after power-on reset (R280, R281): the block's registers as R281 gives them, no cell of a
buffer written, and the link, TIME and the inputs as log 4, log 9 and log 10 name them. -/
def State.reset : State :=
  { cmd := 0, arg := 0, status := Status.reset, result := 0, resultWritten := false,
    fault := { cmdOverrun := false, busyWrite := false, badAccess := false },
    session := { unit := 0, valid := false },
    cfg := { ifdMs := Config.ifdMs, pollRetries := Config.pollRetries,
             pollIntervalMs := Config.pollIntervalMs, timeoutMs := Config.timeoutMs },
    bufLen := 0, txLen := 0, rxCount := 0, seq := { idx := 0, total := 0 },
    buf := [], wbuf := [], txbuf := [], rxbuf := [],
    vr := Vector.replicate 32 VrEntry.reset, snap := Snapshot.reset,
    cur := { opc := 0, a := 0, b := 0, arg := 0 }, unit := 0,
    tr := { fc := 0, unit := 0, start := 0, count := 0, r := 0 }, td := [], stage := [],
    link := { isOpen := false, refuses := false, txq := [], rxq := [], cut := false },
    time := 0, rdata := 0, draws := 0, inputs := [] }

end Sys2Proof.Machine
end

