-- ==== Sys2Proof/Machine/Flags.lean ====
section
/-! DEFINITION. The flags (10_state.md R50): the codes of the error kinds and reasons (60_exceptions.md R250,
R251), and STATUS, FAULT, SESSION_UNIT and SEQ as the 32-bit registers the host reads. -/

namespace Sys2Proof.Machine

/-- STATUS.STATE's code (R26). -/
def TxnState.code : TxnState → BitVec 4
  | .idle => 0
  | .sending => 1
  | .awaiting => 2
  | .validating => 3

/-- ERR_KIND's code (R250). -/
def CmdError.kind : CmdError → BitVec 4
  | .notOpen | .sendFailed => 1
  | .crcMismatch => 2
  | .address | .functionCode | .byteCount => 3
  | .exception => 4
  | .replyIncomplete => 5
  | .channel | .deviceAddress | .baud | .count | .value | .registerId => 6
  | .baudUnsupported => 7
  | .lengthExceedsData | .capacity => 8
  | .unassignedOpcode | .sessionUnitUnset => 9

/-- ERR_REASON's code (R251). -/
def CmdError.reason : CmdError → BitVec 4
  | .notOpen | .crcMismatch | .address | .exception | .replyIncomplete | .channel | .baudUnsupported
  | .lengthExceedsData | .unassignedOpcode => 1
  | .sendFailed | .functionCode | .deviceAddress | .capacity | .sessionUnitUnset => 2
  | .byteCount | .baud => 3
  | .count => 4
  | .value => 5
  | .registerId => 6

/-- STATUS.ERR_KIND: 0 for no error (R26). -/
def Status.errKind (st : Status) : BitVec 4 := (st.err.map CmdError.kind).getD 0

/-- STATUS.ERR_REASON: 0 for no error (R26). -/
def Status.errReason (st : Status) : BitVec 4 := (st.err.map CmdError.reason).getD 0

/-- A flag as bit `i` of a register. -/
def flagBit (b : Bool) (i : Nat) : Reg := if b then (1 : Reg) <<< i else 0

/-- STATUS as the host reads it (R26). -/
def Status.word (st : Status) : Reg :=
  (st.retriesLeft.setWidth 32 <<< 24) ||| (st.excCode.setWidth 32 <<< 16) |||
  (st.errReason.setWidth 32 <<< 12) ||| (st.errKind.setWidth 32 <<< 8) |||
  flagBit st.allFf 7 ||| flagBit st.ok 6 ||| flagBit st.done 5 ||| flagBit st.busy 4 |||
  st.state.code.setWidth 32

/-- FAULT as the host reads it (R27). -/
def FaultBits.word (f : FaultBits) : Reg :=
  flagBit f.badAccess 2 ||| flagBit f.busyWrite 1 ||| flagBit f.cmdOverrun 0

/-- SESSION_UNIT as the host reads it (R28). -/
def Session.word (x : Session) : Reg := flagBit x.valid 31 ||| x.unit.setWidth 32

/-- SEQ as the host reads it (R35). -/
def Seq.word (q : Seq) : Reg := (q.total.setWidth 32 <<< 8) ||| q.idx.setWidth 32

/-- The outcome fields cleared when a command is accepted (60_exceptions.md R255). -/
def Status.cleared (st : Status) : Status :=
  { st with done := false, ok := false, allFf := false, err := none, excCode := 0 }

/-- Success (R256, R160). -/
def Status.succeeded (st : Status) : Status := { st with ok := true, done := true }

/-- An error before any transaction, or of a pure command: EXC_CODE stays as the command last wrote it (R256). -/
def Status.raised (st : Status) (e : CmdError) : Status :=
  { st with err := some e, ok := false, done := true }

/-- Back to IDLE, as both endings of a link command leave it (R160, R259). -/
def Status.idled (st : Status) : Status := { st with state := .idle, busy := false, retriesLeft := 0 }

end Sys2Proof.Machine
end

