-- ==== Sys2Proof/WellFormed.lean ====
section
/-! DEFINITION. Which instructions the encodings of 30_encoding.md can carry. Every operand value of a command
is encodable (R80, R82); a wire frame must have one of the layouts of R90. -/

namespace Sys2Proof

/-- The payload of a 0x03 frame: 4 bytes (start and count of a request), or a byte count and 2 bytes for each of
1 to 127 registers (R90, R92). -/
def readBodyOk (n : Nat) : Bool :=
  n == 4 || (decide (3 ≤ n) && decide (n ≤ 1 + 2 * Config.maxCount) && n % 2 == 1)

/-- The payload of a 0x10 frame: the 4 bytes of an ack, or start, count, byte count and 2 bytes for each of 1 to
127 registers (R90, R92). -/
def writeBodyOk (n : Nat) : Bool :=
  n == 4 || (decide (7 ≤ n) && decide (n ≤ 5 + 2 * Config.maxCount) && n % 2 == 1)

/-- An instruction the encodings can carry. -/
def Instr.wf : Instr → Bool
  | .rtuReadHoldingRegisters _ body _ => readBodyOk body.length
  | .rtuWriteMultipleRegisters _ body _ => writeBodyOk body.length
  | .rtuReadException _ _ _ | .rtuWriteException _ _ _ => true
  | .crcCalc _ | .crcVerify _ | .crcAppend _ => true
  | .frameReadReq _ _ _ | .frameWriteReq _ _ _ | .frameReadRsp _ _ | .frameWriteRsp _ => true
  | .readHolding _ _ _ | .writeMultiple _ _ _ => true
  | .voltDecode _ | .voltEncode _ | .thrDecode _ | .thrEncode _ | .baudDecode _ | .baudEncode _ => true
  | .maskDecode _ _ | .textDecode _ | .regLookup _ => true
  | .readAllVoltages | .readSingleVoltage _ | .readSnapshot => true
  | .writeDeviceAddress _ | .writeBaudRate _ | .writeIoDirection _ | .writeIoValue _ => true
  | .writeSetTemperature _ | .writeDropThreshold _ _ => true

end Sys2Proof
end

