-- ==== Sys2Proof/Decode.lean ====
section
/-! DEFINITION. The two encodings (30_encoding.md): the command pair CMD and ARG (R80 to R84), and the wire frame
(R86 to R93). The decoder is total and rejects by name; the encoder is written from the same tables. -/

namespace Sys2Proof

/-! ### Bytes of a word (00_scope.md R15) -/

/-- `hi(w) = w[15:8]`. -/
def hi (w : Word) : Byte := w.extractLsb' 8 8

/-- `lo(w) = w[7:0]`. -/
def lo (w : Word) : Byte := w.extractLsb' 0 8

/-- `be16(a, b) = (a << 8) | b`. -/
def be16 (a b : Byte) : Word := (a.setWidth 16 <<< 8) ||| b.setWidth 16

/-- One encoded instruction. A command is the pair of registers the host writes (R80); a frame is the bytes on
the wire, byte 0 first (20_memory.md R73). -/
inductive Code where
  | command (cmd arg : Reg)
  | frame (bytes : List Byte)
  deriving DecidableEq, Repr

/-- Why a decoder gives no instruction. -/
inductive DecodeError where
  /-- An OPC value outside R82 (R84). -/
  | unassignedOpcode (opc : Byte)
  /-- Fewer than unit, function code and CRC: no frame of R86. -/
  | frameTooShort (length : Nat)
  /-- A byte 1 outside R89 (R93). -/
  | unknownFunctionCode (fc : Byte)
  /-- A known function code in a frame of a length R90 does not give it. -/
  | badFrameLength (fc : Byte) (length : Nat)
  deriving DecidableEq, Repr

/-! ### Commands -/

/-- `OPC = CMD[7:0]` (10_state.md R24). -/
def opcOf (cmd : Reg) : Byte := cmd.extractLsb' 0 8

/-- `A = CMD[15:8]` (R24, R82). -/
def aOf (cmd : Reg) : Byte := cmd.extractLsb' 8 8

/-- `B = CMD[31:16]` (R24, R82). -/
def bOf (cmd : Reg) : Word := cmd.extractLsb' 16 16

/-- `N = ARG[15:0]` (R82, R83). -/
def nOf (arg : Reg) : Word := arg.extractLsb' 0 16

/-- A CMD value from its fields (R80; R87 `(b << 16) | (a << 8) | OPC`). -/
def cmdWord (opc a : Byte) (b : Word) : Reg :=
  (b.setWidth 32 <<< 16) ||| (a.setWidth 32 <<< 8) ||| opc.setWidth 32

/-- The opcode map of R82 on the four fields of a command. -/
def decodeFields (opc a : Byte) (b : Word) (arg : Reg) : Except DecodeError Instr :=
  match opc.toNat with
  | 0x01 => .ok (.crcCalc (nOf arg))
  | 0x02 => .ok (.crcVerify (nOf arg))
  | 0x03 => .ok (.crcAppend (nOf arg))
  | 0x10 => .ok (.frameReadReq a b (nOf arg))
  | 0x11 => .ok (.frameWriteReq a b (nOf arg))
  | 0x12 => .ok (.frameReadRsp a (nOf arg))
  | 0x13 => .ok (.frameWriteRsp a)
  | 0x14 => .ok (.readHolding a b (nOf arg))
  | 0x15 => .ok (.writeMultiple a b (nOf arg))
  | 0x20 => .ok (.voltDecode b)
  | 0x21 => .ok (.voltEncode arg)
  | 0x22 => .ok (.thrDecode b)
  | 0x23 => .ok (.thrEncode arg)
  | 0x24 => .ok (.baudDecode b)
  | 0x25 => .ok (.baudEncode arg)
  | 0x26 => .ok (.maskDecode b (nOf arg))
  | 0x27 => .ok (.textDecode a)
  | 0x30 => .ok (.regLookup a)
  | 0x40 => .ok .readAllVoltages
  | 0x41 => .ok (.readSingleVoltage a)
  | 0x42 => .ok .readSnapshot
  | 0x43 => .ok (.writeDeviceAddress b)
  | 0x44 => .ok (.writeBaudRate arg)
  | 0x45 => .ok (.writeIoDirection b)
  | 0x46 => .ok (.writeIoValue b)
  | 0x47 => .ok (.writeSetTemperature b)
  | 0x48 => .ok (.writeDropThreshold a arg)
  | _ => .error (.unassignedOpcode opc)

/-- The command a CMD write of `cmd` issues while ARG holds `arg` (R80, R81). -/
def decodeCommand (cmd arg : Reg) : Except DecodeError Instr :=
  decodeFields (opcOf cmd) (aOf cmd) (bOf cmd) arg

/-! ### Wire frames -/

/-- `[unit, fc, payload.., crc_lo, crc_hi]` (R86; the CRC low byte first, 20_memory.md R65). -/
def frameBytes (unit fc : Byte) (body : List Byte) (crc : Word) : List Byte :=
  unit :: fc :: (body ++ [lo crc, hi crc])

/-- The frame of R89 and R90 that has unit, function code, payload and CRC as given. -/
def decodeParts (unit fc : Byte) (body : List Byte) (crc : Word) : Except DecodeError Instr :=
  match fc.toNat with
  | 0x03 =>
    if readBodyOk body.length then .ok (.rtuReadHoldingRegisters unit body crc)
    else .error (.badFrameLength fc (body.length + 4))
  | 0x10 =>
    if writeBodyOk body.length then .ok (.rtuWriteMultipleRegisters unit body crc)
    else .error (.badFrameLength fc (body.length + 4))
  | 0x83 =>
    match body with
    | [code] => .ok (.rtuReadException unit code crc)
    | _ => .error (.badFrameLength fc (body.length + 4))
  | 0x90 =>
    match body with
    | [code] => .ok (.rtuWriteException unit code crc)
    | _ => .error (.badFrameLength fc (body.length + 4))
  | _ => .error (.unknownFunctionCode fc)

/-- The wire frame a byte sequence is (R86, R89, R90). The CRC is read, not checked: R131 and R135 check it. -/
def decodeFrame (bytes : List Byte) : Except DecodeError Instr :=
  match bytes with
  | unit :: fc :: rest =>
    match rest.drop (rest.length - 2) with
    | [l, h] => decodeParts unit fc (rest.take (rest.length - 2)) (be16 h l)
    | _ => .error (.frameTooShort bytes.length)
  | _ => .error (.frameTooShort bytes.length)

/-- The decoder, total on both encodings. -/
def decode : Code → Except DecodeError Instr
  | .command cmd arg => decodeCommand cmd arg
  | .frame bytes => decodeFrame bytes

/-! ### The encoder -/

/-- A command from its OPC and its fields; a field R82 marks with a dash is 0 (R83, R87). -/
def commandCode (opc : Byte) (a : Byte := 0) (b : Word := 0) (arg : Reg := 0) : Code :=
  .command (cmdWord opc a b) arg

/-- The words or the bytes of an instruction (R82, R90). -/
def encode : Instr → Code
  | .crcCalc n => commandCode 0x01 (arg := n.setWidth 32)
  | .crcVerify n => commandCode 0x02 (arg := n.setWidth 32)
  | .crcAppend n => commandCode 0x03 (arg := n.setWidth 32)
  | .frameReadReq u s c => commandCode 0x10 u s (c.setWidth 32)
  | .frameWriteReq u s c => commandCode 0x11 u s (c.setWidth 32)
  | .frameReadRsp u c => commandCode 0x12 (a := u) (arg := c.setWidth 32)
  | .frameWriteRsp u => commandCode 0x13 (a := u)
  | .readHolding u s c => commandCode 0x14 u s (c.setWidth 32)
  | .writeMultiple u s c => commandCode 0x15 u s (c.setWidth 32)
  | .voltDecode raw => commandCode 0x20 (b := raw)
  | .voltEncode x => commandCode 0x21 (arg := x)
  | .thrDecode raw => commandCode 0x22 (b := raw)
  | .thrEncode x => commandCode 0x23 (arg := x)
  | .baudDecode code => commandCode 0x24 (b := code)
  | .baudEncode rate => commandCode 0x25 (arg := rate)
  | .maskDecode high low => commandCode 0x26 (b := high) (arg := low.setWidth 32)
  | .textDecode n => commandCode 0x27 (a := n)
  | .regLookup id => commandCode 0x30 (a := id)
  | .readAllVoltages => commandCode 0x40
  | .readSingleVoltage ch => commandCode 0x41 (a := ch)
  | .readSnapshot => commandCode 0x42
  | .writeDeviceAddress a => commandCode 0x43 (b := a)
  | .writeBaudRate rate => commandCode 0x44 (arg := rate)
  | .writeIoDirection v => commandCode 0x45 (b := v)
  | .writeIoValue v => commandCode 0x46 (b := v)
  | .writeSetTemperature v => commandCode 0x47 (b := v)
  | .writeDropThreshold ch x => commandCode 0x48 (a := ch) (arg := x)
  | .rtuReadHoldingRegisters u body crc => .frame (frameBytes u 0x03 body crc)
  | .rtuReadException u code crc => .frame (frameBytes u 0x83 [code] crc)
  | .rtuWriteMultipleRegisters u body crc => .frame (frameBytes u 0x10 body crc)
  | .rtuWriteException u code crc => .frame (frameBytes u 0x90 [code] crc)

/-! ### The host's table words -/

/-- The reply whose function code byte is given and whose other bytes are 0, at the shortest length R90 gives that
code; none for another byte (R89). Stands for a wire row of the opcode table, whose bits are byte 1 alone. -/
def tableFrame (fc : Nat) : Option (List Byte) :=
  match fc with
  | 0x03 => some [0, 0x03, 0, 0, 0, 0, 0]
  | 0x10 => some [0, 0x10, 0, 0, 0, 0, 0, 0]
  | 0x83 => some [0, 0x83, 0, 0, 0]
  | 0x90 => some [0, 0x90, 0, 0, 0]
  | _ => none

/-- What a table word of `nbits` bits encodes (log 8). A word of 8 bits that is a wire function code is a frame;
any other word is CMD in bits 31..0 and ARG in bits 63..32. -/
def tableCode (nbits w : Nat) : Code :=
  let w := w % 2 ^ nbits
  let word := Code.command (BitVec.ofNat 32 w) (BitVec.ofNat 32 (w / 2 ^ 32))
  if nbits ≤ 8 then
    match tableFrame w with
    | some bytes => .frame bytes
    | none => word
  else word

/-- The instruction the decoder reads from a table word. -/
def decodeTableWord (nbits w : Nat) : Option Instr := (decode (tableCode nbits w)).toOption

end Sys2Proof
end

