-- ==== Sys2Proof/Machine/Checksum.lean ====
section
/-! DEFINITION. The CRC16/Modbus checksum function (40_crc.md R100, R101, R106). It holds no state (R109). -/

namespace Sys2Proof.Machine

/-- One of the 8 shifts of R101: the bit shifted out decides the XOR with 0xA001. -/
def crcShift (acc : Word) : Word :=
  if acc.getLsbD 0 then (acc >>> 1) ^^^ 0xA001#16 else acc >>> 1

/-- One byte of R101: XOR it in, then 8 shifts. -/
def crcByte (acc : Word) (b : Byte) : Word :=
  crcShift (crcShift (crcShift (crcShift (crcShift (crcShift (crcShift (crcShift (acc ^^^ b.setWidth 16))))))))

/-- `crc16(s)` (R101): the accumulator starts at 0xFFFF and takes the bytes in order. -/
def crc16 (s : List Byte) : Word := s.foldl crcByte 0xFFFF#16

/-- `append(d) = d ++ [lo(crc16(d)), hi(crc16(d))]` (R107): a sequence closed by its CRC, low byte first. -/
def appendCrc (d : List Byte) : List Byte := d ++ [lo (crc16 d), hi (crc16 d)]

/-- `verify(s)` (R106). -/
def verify (s : List Byte) : Bool :=
  decide (3 ≤ s.length) &&
    crc16 (s.take (s.length - 2)) == be16 (s.getD (s.length - 1) 0) (s.getD (s.length - 2) 0)

end Sys2Proof.Machine
end

