-- ==== Sys2Proof/Machine/RtuFormat.lean ====
section
/-! DEFINITION. The RTU request encoders and reply validators as pure functions (41_rtu_frame.md). -/

namespace Sys2Proof.Machine

/-- `build_read(u, s, c)` (R120). -/
def buildRead (u : Byte) (s c : Word) : List Byte :=
  appendCrc [u, 0x03, hi s, lo s, hi c, lo c]

/-- The bytes of register values on the wire, each high byte first (20_memory.md R64, R66). -/
def wordBytes : List Word → List Byte
  | [] => []
  | w :: ws => hi w :: lo w :: wordBytes ws

/-- `build_write(u, s, v)` (R123): the count field is `|v|` and the byte count `2*|v|`. -/
def buildWrite (u : Byte) (s : Word) (v : List Word) : List Byte :=
  let n := BitVec.ofNat 16 v.length
  appendCrc ([u, 0x10, hi s, lo s, hi n, lo n, BitVec.ofNat 8 (2 * v.length)] ++ wordBytes v)

/-- The register counts a transaction may have, 1 to 127 (42_rtu_transaction.md R151). -/
def countOk (c : Word) : Bool := decide (1 ≤ c.toNat) && decide (c.toNat ≤ Config.maxCount)

/-- `need_read(rx, c)` (R130). -/
def needRead (rx : List Byte) (c : Nat) : Nat := if rx[1]? = some 0x83 then 5 else 5 + 2 * c

/-- `need_write(rx)` (R134). -/
def needWrite (rx : List Byte) : Nat := if rx[1]? = some 0x90 then 5 else 8

/-- What a validator gives: the words, or the error with the EXC_CODE that goes with it (R131). -/
abbrev Validated := Except (CmdError × Byte) (List Word)

/-- The `c` big-endian words of a read reply's payload (R131). -/
def replyWords (rx : List Byte) (c : Nat) : List Word :=
  (List.range c).map fun i => be16 (rx.getD (3 + 2 * i) 0) (rx.getD (4 + 2 * i) 0)

/-- `validate_read(rx, u, c)`, its checks in the order of R131. -/
def validateRead (rx : List Byte) (u : Byte) (c : Nat) : Validated :=
  if verify rx = false then .error (.crcMismatch, 0)
  else if rx.getD 0 0 ≠ u then .error (.address, 0)
  else if rx.getD 1 0 = 0x83 then .error (.exception, rx.getD 2 0)
  else if rx.getD 1 0 ≠ 0x03 then .error (.functionCode, 0)
  else if (rx.getD 2 0).toNat ≠ 2 * c then .error (.byteCount, 0)
  else .ok (replyWords rx c)

/-- `validate_write(rx, u)`, its checks in the order of R135; bytes 2 to 5 of an ack are not compared. -/
def validateWrite (rx : List Byte) (u : Byte) : Validated :=
  if verify rx = false then .error (.crcMismatch, 0)
  else if rx.getD 0 0 ≠ u then .error (.address, 0)
  else if rx.getD 1 0 = 0x90 then .error (.exception, rx.getD 2 0)
  else if rx.getD 1 0 ≠ 0x10 then .error (.functionCode, 0)
  else .ok []

/-- The request of a descriptor (42_rtu_transaction.md R152). -/
def TxnDesc.frame (d : TxnDesc) : List Byte :=
  if d.fc = 0x03 then buildRead d.unit d.start d.count else buildWrite d.unit d.start d.values

/-- The reply length the transaction in flight needs, from the bytes collected so far (R156). -/
def Tr.need (t : Tr) (rx : List Byte) : Nat :=
  if t.fc = 0x03 then needRead rx t.count.toNat else needWrite rx

/-- The validation of a reply to the transaction in flight (R159). -/
def Tr.validate (t : Tr) (rx : List Byte) : Validated :=
  if t.fc = 0x03 then validateRead rx t.unit t.count.toNat else validateWrite rx t.unit

end Sys2Proof.Machine
end

