-- ==== Sys2Proof/Machine/Operands.lean ====
section
/-! DEFINITION. Cells and operand ranges: the named operations over the sparse buffers, and the ranges a command
takes its operands from (30_encoding.md R82; 10_state.md R37 to R40, R47). -/

namespace Sys2Proof.Machine

/-- The value cell `a` holds, if one has been written to it (R47). -/
def cellGet {w : Nat} : Store w → Nat → Option (BitVec w)
  | [], _ => none
  | (b, v) :: m, a => if a = b then some v else cellGet m a

/-- Writing cell `a`. Keeps the canonical form. -/
def cellSet {w : Nat} (a : Nat) (v : BitVec w) : Store w → Store w
  | [] => [(a, v)]
  | (b, u) :: m =>
    if a < b then (a, v) :: (b, u) :: m
    else if a = b then (a, v) :: m
    else (b, u) :: cellSet a v m

/-- Writing consecutive cells from cell `a` on. -/
def cellsWrite {w : Nat} (a : Nat) : List (BitVec w) → Store w → Store w
  | [], m => m
  | v :: vs, m => cellsWrite (a + 1) vs (cellSet a v m)

/-- The canonical form, within a capacity: addresses strictly rising, and all of them cells of the buffer. -/
abbrev Store.wf {w : Nat} (cap : Nat) (m : Store w) : Prop :=
  m.Pairwise (fun x y => x.1 < y.1) ∧ ∀ c ∈ m, c.1 < cap

/-- The canonical form of a byte buffer. -/
abbrev Memory.wf (cap : Nat) (m : Memory) : Prop := Store.wf (w := 8) cap m

/-- Cells 0 to `n - 1`; a cell that nothing has written gives its free value (log 2). -/
def cellsRead {w : Nat} (m : Store w) (free : Nat → BitVec w) (n : Nat) : List (BitVec w) :=
  (List.range n).map fun i => (cellGet m i).getD (free i)

/-- The HOST index of BUF[0] (R23). -/
def bufBase : Nat := 0x100

/-- The HOST index of WBUF[0] (R23). -/
def wbufBase : Nat := 0x280

/-- The HOST index of TXBUF[0] (R23). -/
def txbufBase : Nat := 0x300

/-- The HOST index of RXBUF[0] (R23). -/
def rxbufBase : Nat := 0x500

/-- The free value of HOST index `index` at this state, at the width of the cell there (R47, log 3). -/
def State.free (s : State) (w index : Nat) : BitVec w := (Config.draw s.draws index).setWidth w

/-- `BUF[0..n)`. -/
def State.bufBytes (s : State) (n : Nat) : List Byte :=
  cellsRead (w := 8) s.buf (fun i => s.free 8 (bufBase + i)) n

/-- `WBUF[0..n)`. -/
def State.wbufWords (s : State) (n : Nat) : List Word :=
  cellsRead s.wbuf (fun i => s.free 16 (wbufBase + i)) n

/-- `TXBUF[0..TX_LEN)`: the request frame (R40). -/
def State.txBytes (s : State) : List Byte :=
  cellsRead (w := 8) s.txbuf (fun i => s.free 8 (txbufBase + i)) s.txLen.toNat

/-- `RXBUF[0..RX_COUNT)`: the reply bytes collected (R40). -/
def State.rxBytes (s : State) : List Byte :=
  cellsRead (w := 8) s.rxbuf (fun i => s.free 8 (rxbufBase + i)) s.rxCount.toNat

/-- The words staged for transaction `k` (R219). -/
def State.staged (s : State) (k : Nat) : List Word := s.stage.getD k []

/-- A command's length or count as its rule reads it (R83: zero-extended). -/
def State.lenExceeds (s : State) (n : Nat) : Bool := decide (s.bufLen.toNat < n)

end Sys2Proof.Machine
end

