-- ==== Sys2Proof/Machine/ValueCodec.lean ====
section
/-! DEFINITION. The value codecs as pure functions (43_codecs.md). Voltages are exact integer microvolts (R181). -/

namespace Sys2Proof.Machine

/-- `rnd(x, d) = floor((2*x + d) / (2*d))`: a half rounds up (R180). -/
def rnd (x d : Nat) : Nat := (2 * x + d) / (2 * d)

/-- `volt_decode(raw)` (R182): 0x8000 itself takes the 1 mV branch. -/
def voltDecode (raw : Word) : Reg :=
  if raw.toNat > 0x8000 then BitVec.ofNat 32 ((raw.toNat - 0x8000) * 10000)
  else BitVec.ofNat 32 (raw.toNat * 1000)

/-- `volt_encode(x)` (R184). -/
def voltEncode (x : Reg) : Except CmdError Word :=
  if x.toNat > 32768000 then
    if rnd x.toNat 10000 > 0x7FFF then .error .value
    else .ok (BitVec.ofNat 16 (rnd x.toNat 10000 + 0x8000))
  else .ok (BitVec.ofNat 16 (rnd x.toNat 1000))

/-- `thr_decode(raw)` (R187). -/
def thrDecode (raw : Word) : Reg := BitVec.ofNat 32 (raw.toNat * 10000)

/-- `thr_encode(x)` (R188). -/
def thrEncode (x : Reg) : Except CmdError Word :=
  if rnd x.toNat 10000 > 0xFFFF then .error .value else .ok (BitVec.ofNat 16 (rnd x.toNat 10000))

/-- `baud_decode(code)` (R190): an unrecognised code gives the highest rate. -/
def baudDecode (code : Word) : Reg :=
  match code.toNat with
  | 0 => 9600
  | 1 => 19200
  | 2 => 38400
  | _ => 57600

/-- `baud_encode(b)` (R191). -/
def baudEncode (b : Reg) : Except CmdError Word :=
  match b.toNat with
  | 9600 => .ok 0
  | 19200 => .ok 1
  | 38400 => .ok 2
  | 57600 => .ok 3
  | _ => .error .baudUnsupported

/-- `mask_decode(hw, lw)` (R193). -/
def maskDecode (hw lw : Word) : Reg := (hw.setWidth 32 <<< 16) ||| lw.setWidth 32

/-- `dropped(mask, ch) = mask[ch - 1]` (R194). -/
def dropped (mask : Reg) (ch : Nat) : Bool := mask.getLsbD (ch - 1)

/-- `text_len(w, n)` (R195): two bytes a word, up to the first word that is 0x0000. -/
def textLen : List Word → Nat
  | [] => 0
  | w :: ws => if w = 0 then 0 else 2 + textLen ws

/-- The bytes of a text block up to its terminator (R195, R196). -/
def textBytes (w : List Word) : List Byte := (wordBytes w).take (textLen w)

/-- `allff(w)` (44_device_ops.md R224): every word is 0xFFFF. -/
def allFf (w : List Word) : Bool := w.all (· == 0xFFFF#16)

end Sys2Proof.Machine
end

