-- ==== Sys2Proof/Machine/RegisterMap.lean ====
section
/-! DEFINITION. The device's register map, version GJVdc-32, as constant logic (44_device_ops.md R210, R211, R213),
and the read sequence of a snapshot (R223). -/

namespace Sys2Proof.Machine

/-- The map of R210: address and length in registers, by id. -/
def registerMap : List (Word × Word) :=
  [(0x8000, 1), (0x8001, 1), (0x8002, 1), (0x8003, 1), (0x8004, 1), (0x8005, 2), (0x8007, 1), (0x8008, 1),
   (0x8009, 1), (0x800A, 1), (0x8010, 32), (0x8030, 32), (0x8050, 32), (0x80C0, 32), (0x80E0, 32),
   (0x8800, 32), (0x8820, 31)]

/-- `volt_addr(ch)` (R213). -/
def voltAddr (ch : Byte) : Word := 0x8010 + ch.setWidth 16 - 1

/-- `dur_addr(ch)` (R213). No command uses it (R215). -/
def durAddr (ch : Byte) : Word := 0x8030 + ch.setWidth 16 - 1

/-- `thr_addr(ch)` (R213). -/
def thrAddr (ch : Byte) : Word := 0x8050 + ch.setWidth 16 - 1

/-- The channel numbers, 1 to 32 (00_scope.md R11, 60_exceptions.md R251). -/
def channelOk (ch : Byte) : Bool := decide (1 ≤ ch.toNat) && decide (ch.toNat ≤ Config.channels)

/-- A read descriptor. -/
def readDesc (u : Byte) (s c : Word) : TxnDesc := { fc := 0x03, unit := u, start := s, count := c, values := [] }

/-- A write descriptor (R151: the count is the number of values). -/
def writeDesc (u : Byte) (s : Word) (v : List Word) : TxnDesc :=
  { fc := 0x10, unit := u, start := s, count := BitVec.ofNat 16 v.length, values := v }

/-- The 12 reads of a snapshot, in the order of R223. -/
def snapshotDescs (u : Byte) : List TxnDesc :=
  [readDesc u 0x8000 1, readDesc u 0x8001 1, readDesc u 0x8002 1, readDesc u 0x8003 1,
   readDesc u 0x8004 1, readDesc u 0x8005 2, readDesc u 0x8007 1, readDesc u 0x8008 1,
   readDesc u 0x8009 1, readDesc u 0x800A 1, readDesc u 0x8800 32, readDesc u 0x8820 31]

end Sys2Proof.Machine
end

