-- ==== Sys2Proof/Machine/Ops.lean ====
section
/-! DEFINITION. The shared operations: entry to a command and its endings (60_exceptions.md R255, R256, R265: the
block's equivalents of taking an exception and returning from one), starting a transaction, the acceptance of a
device-level command, the link primitives, and reset. -/

namespace Sys2Proof.Machine

/-! ### Entry and endings -/

/-- Accept (30_encoding.md R81, R255): store CMD, latch CUR, clear the outcome fields and SEQ. -/
def State.accept (s : State) (c : Reg) : State :=
  { s with
    cmd := c
    cur := { opc := opcOf c, a := aOf c, b := bOf c, arg := s.arg }
    status := s.status.cleared
    seq := { idx := 0, total := 0 } }

/-- Writing RESULT. -/
def State.setResult (s : State) (v : Reg) : State := { s with result := v, resultWritten := true }

/-- `complete(v)` (R256): a pure command succeeds. -/
def State.complete (s : State) (v : Reg) : State :=
  { s with result := v, resultWritten := true, status := s.status.succeeded }

/-- `raise K(r)` (R256): an error of a pure command, or of a check before any transaction. -/
def State.raise (s : State) (e : CmdError) : State := { s with status := s.status.raised e }

/-- Writing STATUS.EXC_CODE, as the reply decoders do just before they raise (41_rtu_frame.md R132, R136). -/
def State.setExcCode (s : State) (x : Byte) : State := { s with status := { s.status with excCode := x } }

/-- `end_ok()` (42_rtu_transaction.md R160). -/
def State.endOk (s : State) : State := { s with status := s.status.idled.succeeded }

/-- `end_fail(kind, reason, exc)` after `on_fail()` (R160). STAGE is discarded (44_device_ops.md R219). -/
def State.endFail (onFail : State → State) (s : State) (e : CmdError) (x : Byte) : State :=
  let s := onFail s
  { s with stage := [], status := { s.status.idled.raised e with excCode := x } }

/-- An `on_fail()` that does nothing (R163, R166, R221, R222, R226). -/
def State.keep (s : State) : State := s

/-- The `on_fail()` of READ_SNAPSHOT (R224): SNAP_ONLINE <- 0, every other SNAP field unchanged. -/
def State.snapOffline (s : State) : State := { s with snap := { s.snap with online := false } }

/-! ### Starting a transaction -/

/-- The part of `start_txn(k)` that follows the stream check (R152). -/
def State.loadTxn (s : State) (k : Nat) (d : TxnDesc) : State :=
  { s with
    txbuf := cellsWrite (w := 8) 0 d.frame s.txbuf
    txLen := BitVec.ofNat 9 d.frame.length
    rxCount := 0
    tr := { s.tr with fc := d.fc, unit := d.unit, start := d.start, count := d.count }
    seq := { s.seq with idx := BitVec.ofNat 8 k }
    status := { s.status with busy := true, state := .sending } }

/-- `SEQ.SEQ_IDX <- k`. -/
def State.atTxn (s : State) (k : Nat) : State := { s with seq := { s.seq with idx := BitVec.ofNat 8 k } }

/-- `start_txn(k)` with descriptor `TD[k]` (R152). On a stream that is not open SEQ_IDX names transaction `k`, the one that
failed (44_device_ops.md R220, R224; log 22). -/
def State.startTxn (onFail : State → State) (s : State) (k : Nat) (d : TxnDesc) : State :=
  if s.link.isOpen then s.loadTxn k d else (s.atTxn k).endFail onFail .notOpen 0

/-- `TD <- tds; T <- |tds|; SEQ.SEQ_TOTAL <- T; start_txn(0)` (R163, R166, R217). No command has an empty list. -/
def State.begin (onFail : State → State) (s : State) (tds : List TxnDesc) : State :=
  let s := { s with td := tds, seq := { s.seq with total := BitVec.ofNat 8 tds.length } }
  match tds with
  | [] => s
  | d :: _ => s.startTxn onFail 0 d

/-- `dev_accept` (44_device_ops.md R217): the argument checks have given `check`, then the session check, then
the unit is latched and transaction 0 starts. -/
def State.devAccept (onFail : State → State) (s : State) (check : Except CmdError Unit)
    (tds : Byte → List TxnDesc) : State :=
  match check with
  | .error e => s.raise e
  | .ok _ =>
    if s.session.valid then
      { s with unit := s.session.unit }.begin onFail (tds s.session.unit)
    else s.raise .sessionUnitUnset

/-- `write_cmd(checks, addr, v)` at accept (R226): the checks give the raw word, or the error. -/
def State.writeAccept (s : State) (checked : Except CmdError Word) (addr : Word) : State :=
  match checked with
  | .error e => s.raise e
  | .ok v => s.devAccept State.keep (.ok ()) fun u => [writeDesc u addr [v]]

/-- An argument check that raises `e` when it fails. -/
def require (ok : Bool) (e : CmdError) : Except CmdError Unit := if ok then .ok () else .error e

/-! ### The link primitives (20_memory.md R72) -/

/-- `LinkDiscard()`: both queues are emptied (10_state.md R48). -/
def Link.discard (l : Link) : Link := { l with txq := [], rxq := [] }

/-- `LinkSend(s)`: all of `s` goes to TXQ in order; none (for `fail`) when the stream is not open or the
transport refuses the write. A new request is not cut. -/
def Link.send (l : Link) (bytes : List Byte) : Option Link :=
  if l.isOpen && !l.refuses then some { l with txq := l.txq ++ bytes, cut := false } else none

/-- No more bytes arrive: the block is polling, and the stream has closed since polling began (42_rtu_transaction.md
R168; log 26). -/
def State.isCut (s : State) : Bool := decide (s.status.state = .awaiting) && s.link.cut

/-- Bytes the link appends to RXQ (R48), while bytes arrive at all (R168). -/
def State.receive (s : State) (bytes : List Byte) : State :=
  { s with link := { s.link with rxq := if s.isCut then s.link.rxq else s.link.rxq ++ bytes } }

/-- The link changes OPEN (R48). Closing while the block polls cuts the reply off (R168). -/
def State.changeOpen (s : State) (isOpen : Bool) : State :=
  { s with
    link := { s.link with
      isOpen := isOpen
      cut := if isOpen = false ∧ s.status.state = .awaiting then true else s.link.cut } }

/-- Taking bytes with `LinkAvail` and `LinkPop` while fewer than `need` of them are collected, `need` being
asked again after each byte (42_rtu_transaction.md R156): what is collected, and what stays in RXQ. -/
def collect (need : List Byte → Nat) (rx : List Byte) : List Byte → List Byte × List Byte
  | [] => (rx, [])
  | b :: q => if rx.length < need rx then collect need (rx ++ [b]) q else (rx, b :: q)

/-! ### Reset -/

/-- The block's reset (70_reset_and_hazards.md R280): every piece of block state as `State.reset` has it. The link
agent, TIME, and the model's own fields are outside the block. -/
def State.takeReset (s : State) : State :=
  { State.reset with
    link := s.link, time := s.time, rdata := s.rdata, draws := s.draws, inputs := s.inputs }

end Sys2Proof.Machine
end

