-- ==== Sys2Proof/Machine/CodecCommands.lean ====
section
/-! DEFINITION. The eight codec commands (43_codecs.md). -/

namespace Sys2Proof.Machine

/-- A codec that may fail: the raw word to RESULT, or the error (R184, R188, R191). -/
def State.completeWord (s : State) (r : Except CmdError Word) : State :=
  match r with
  | .ok w => s.complete (w.setWidth 32)
  | .error e => s.raise e

/-- VOLT_DECODE (R183). -/
def execVoltDecode (raw : Word) (s : State) : Host.Outcome State Fault Refusal :=
  .next (s.complete (voltDecode raw))

/-- VOLT_ENCODE (R184). -/
def execVoltEncode (x : Reg) (s : State) : Host.Outcome State Fault Refusal :=
  .next (s.completeWord (voltEncode x))

/-- THR_DECODE (R187). -/
def execThrDecode (raw : Word) (s : State) : Host.Outcome State Fault Refusal :=
  .next (s.complete (thrDecode raw))

/-- THR_ENCODE (R188). -/
def execThrEncode (x : Reg) (s : State) : Host.Outcome State Fault Refusal :=
  .next (s.completeWord (thrEncode x))

/-- BAUD_DECODE (R190). -/
def execBaudDecode (code : Word) (s : State) : Host.Outcome State Fault Refusal :=
  .next (s.complete (baudDecode code))

/-- BAUD_ENCODE (R191). -/
def execBaudEncode (rate : Reg) (s : State) : Host.Outcome State Fault Refusal :=
  .next (s.completeWord (baudEncode rate))

/-- MASK_DECODE (R193). -/
def execMaskDecode (hw lw : Word) (s : State) : Host.Outcome State Fault Refusal :=
  .next (s.complete (maskDecode hw lw))

/-- TEXT_DECODE (R196): the bytes up to the terminator to BUF, their number to BUF_LEN and RESULT, ALL_FF. -/
def execTextDecode (n : Byte) (s : State) : Host.Outcome State Fault Refusal :=
  .next <|
    if n.toNat > Config.wbufCap then s.raise .count
    else
      let w := s.wbufWords n.toNat
      { s with
        buf := cellsWrite (w := 8) 0 (textBytes w) s.buf
        bufLen := BitVec.ofNat 9 (textLen w)
        status := { s.status with allFf := decide (0 < n.toNat) && allFf w } }.complete
          (BitVec.ofNat 32 (textLen w))

end Sys2Proof.Machine
end

