-- ==== Sys2Proof/Machine/CrcCommands.lean ====
section
/-! DEFINITION. CRC_CALC, CRC_VERIFY, CRC_APPEND (40_crc.md). -/

namespace Sys2Proof.Machine

/-- CRC_CALC (R102). -/
def execCrcCalc (n : Word) (s : State) : Host.Outcome State Fault Refusal :=
  .next <|
    if s.lenExceeds n.toNat then s.raise .lengthExceedsData
    else s.complete ((crc16 (s.bufBytes n.toNat)).setWidth 32)

/-- CRC_VERIFY (R105): a mismatch, or fewer than 3 bytes, is 0 and no error. -/
def execCrcVerify (n : Word) (s : State) : Host.Outcome State Fault Refusal :=
  .next <|
    if s.lenExceeds n.toNat then s.raise .lengthExceedsData
    else s.complete (if verify (s.bufBytes n.toNat) then 1 else 0)

/-- CRC_APPEND (R108): in place after the data. -/
def execCrcAppend (n : Word) (s : State) : Host.Outcome State Fault Refusal :=
  .next <|
    if s.lenExceeds n.toNat then s.raise .lengthExceedsData
    else if n.toNat + 2 > Config.bufCap then s.raise .capacity
    else
      let c := crc16 (s.bufBytes n.toNat)
      { s with
        buf := cellsWrite (w := 8) n.toNat [lo c, hi c] s.buf
        bufLen := BitVec.ofNat 9 (n.toNat + 2) }.complete (c.setWidth 32)

end Sys2Proof.Machine
end

