-- ==== Sys2Proof/Machine/DeviceCommands.lean ====
section
/-! DEFINITION. REG_LOOKUP and the device-level commands at the step that accepts them (44_device_ops.md). Their later
steps are those of the engine, their commits those of Commit.lean. -/

namespace Sys2Proof.Machine

/-- REG_LOOKUP (R212): length << 16 | address. -/
def execRegLookup (id : Byte) (s : State) : Host.Outcome State Fault Refusal :=
  .next <|
    match registerMap[id.toNat]? with
    | some (addr, len) => s.complete ((len.setWidth 32 <<< 16) ||| addr.setWidth 32)
    | none => s.raise .registerId

/-- READ_ALL_VOLTAGES (R221). -/
def execReadAllVoltages (s : State) : Host.Outcome State Fault Refusal :=
  .next (s.devAccept State.keep (.ok ()) fun u => [readDesc u 0x8010 32])

/-- READ_SINGLE_VOLTAGE (R222): the channel check comes before the session check. -/
def execReadSingleVoltage (ch : Byte) (s : State) : Host.Outcome State Fault Refusal :=
  .next (s.devAccept State.keep (require (channelOk ch) .channel) fun u => [readDesc u (voltAddr ch) 1])

/-- READ_SNAPSHOT (R224). -/
def execReadSnapshot (s : State) : Host.Outcome State Fault Refusal :=
  .next (s.devAccept State.snapOffline (.ok ()) snapshotDescs)

/-- WRITE_DEVICE_ADDRESS (R227): the address must be 1 to 128. -/
def execWriteDeviceAddress (a : Word) (s : State) : Host.Outcome State Fault Refusal :=
  .next <|
    s.writeAccept (if 1 ≤ a.toNat ∧ a.toNat ≤ 128 then .ok a else .error .deviceAddress) 0x8000

/-- WRITE_BAUD_RATE (R228): an unsupported rate is RangeError 3 here, not the encoder's error. -/
def execWriteBaudRate (rate : Reg) (s : State) : Host.Outcome State Fault Refusal :=
  .next <|
    s.writeAccept (match baudEncode rate with | .ok code => .ok code | .error _ => .error .baud) 0x8002

/-- WRITE_IO_DIRECTION (R229): no argument check. -/
def execWriteIoDirection (v : Word) (s : State) : Host.Outcome State Fault Refusal :=
  .next (s.writeAccept (.ok v) 0x8003)

/-- WRITE_IO_VALUE (R230): no argument check. -/
def execWriteIoValue (v : Word) (s : State) : Host.Outcome State Fault Refusal :=
  .next (s.writeAccept (.ok v) 0x8004)

/-- WRITE_SET_TEMPERATURE (R231): no argument check. -/
def execWriteSetTemperature (v : Word) (s : State) : Host.Outcome State Fault Refusal :=
  .next (s.writeAccept (.ok v) 0x8007)

/-- WRITE_DROP_THRESHOLD (R232): the channel is checked before the value, with the threshold codec (R189). -/
def execWriteDropThreshold (ch : Byte) (x : Reg) (s : State) : Host.Outcome State Fault Refusal :=
  .next (s.writeAccept (if channelOk ch then thrEncode x else .error .channel) (thrAddr ch))

end Sys2Proof.Machine
end

