-- ==== Sys2Proof/Machine/FrameCommands.lean ====
section
/-! DEFINITION. FRAME_READ_REQ, FRAME_WRITE_REQ, FRAME_READ_RSP, FRAME_WRITE_RSP (41_rtu_frame.md). -/

namespace Sys2Proof.Machine

/-- A request frame put into BUF from BUF[0] on, its length into BUF_LEN and RESULT (R121, R124). -/
def State.putFrame (s : State) (f : List Byte) : State :=
  { s with
    buf := cellsWrite (w := 8) 0 f s.buf
    bufLen := BitVec.ofNat 9 f.length }.complete (BitVec.ofNat 32 f.length)

/-- FRAME_READ_REQ (R121). -/
def execFrameReadReq (u : Byte) (start c : Word) (s : State) : Host.Outcome State Fault Refusal :=
  .next <| if countOk c then s.putFrame (buildRead u start c) else s.raise .count

/-- FRAME_WRITE_REQ (R124). -/
def execFrameWriteReq (u : Byte) (start n : Word) (s : State) : Host.Outcome State Fault Refusal :=
  .next <| if countOk n then s.putFrame (buildWrite u start (s.wbufWords n.toNat)) else s.raise .count

/-- FRAME_READ_RSP (R132): bytes of BUF after the needed length are ignored. -/
def execFrameReadRsp (u : Byte) (c : Word) (s : State) : Host.Outcome State Fault Refusal :=
  .next <|
    if countOk c then
      let rx := s.bufBytes s.bufLen.toNat
      let need := needRead rx c.toNat
      if s.lenExceeds need then s.raise .lengthExceedsData
      else
        match validateRead (rx.take need) u c.toNat with
        | .ok w => { s with wbuf := cellsWrite 0 w s.wbuf }.complete (c.setWidth 32)
        | .error (e, x) => (s.setExcCode x).raise e
    else s.raise .count

/-- FRAME_WRITE_RSP (R136). -/
def execFrameWriteRsp (u : Byte) (s : State) : Host.Outcome State Fault Refusal :=
  .next <|
    let rx := s.bufBytes s.bufLen.toNat
    let need := needWrite rx
    if s.lenExceeds need then s.raise .lengthExceedsData
    else
      match validateWrite (rx.take need) u with
      | .ok _ => s.complete 1
      | .error (e, x) => (s.setExcCode x).raise e

end Sys2Proof.Machine
end

