-- ==== Sys2Proof/Machine/TransactionCommands.lean ====
section
/-! DEFINITION. READ_HOLDING and WRITE_MULTIPLE at the step that accepts them (42_rtu_transaction.md). Their later
steps are those of the engine, their commits those of Commit.lean. -/

namespace Sys2Proof.Machine

/-- READ_HOLDING (R163). -/
def execReadHolding (u : Byte) (start c : Word) (s : State) : Host.Outcome State Fault Refusal :=
  .next <|
    if countOk c then
      s.begin State.keep [{ fc := 0x03, unit := u, start := start, count := c, values := [] }]
    else s.raise .count

/-- WRITE_MULTIPLE (R166): the values are taken from WBUF in this step. -/
def execWriteMultiple (u : Byte) (start n : Word) (s : State) : Host.Outcome State Fault Refusal :=
  .next <|
    if countOk n then
      s.begin State.keep
        [{ fc := 0x10, unit := u, start := start, count := n, values := s.wbufWords n.toNat }]
    else s.raise .count

end Sys2Proof.Machine
end

