-- ==== Sys2Proof/Machine/Commit.lean ====
section
/-! DEFINITION. What each link command writes when its last transaction has validated (`commit`) and when it fails
(`on_fail`): 42_rtu_transaction.md R163, R166; 44_device_ops.md R221 to R232. -/

namespace Sys2Proof.Machine

/-- READ_HOLDING's commit (R163). -/
def State.commitReadHolding (s : State) (c : Word) : State :=
  { s with wbuf := cellsWrite 0 (s.staged 0) s.wbuf }.setResult (c.setWidth 32)

/-- WRITE_MULTIPLE's commit (R166). -/
def State.commitWriteMultiple (s : State) (n : Word) : State := s.setResult (n.setWidth 32)

/-- The reading a word gives, from unit U at this step's TIME sample (R221, R222). -/
def State.reading (s : State) (w : Word) : VrEntry :=
  { valid := true, raw := w, uv := voltDecode w, unit := s.unit,
    tsLo := s.time.extractLsb' 0 32, tsHi := s.time.extractLsb' 32 32 }

/-- READ_ALL_VOLTAGES's commit (R221): one TIME sample for all 32 readings. -/
def State.commitAllVoltages (s : State) : State :=
  { s with
    vr := Vector.ofFn fun i : Fin 32 => s.reading ((s.staged 0).getD i.val 0)
    wbuf := cellsWrite 0 (s.staged 0) s.wbuf }.setResult 32

/-- READ_SINGLE_VOLTAGE's commit (R222). -/
def State.commitSingleVoltage (s : State) (ch : Byte) : State :=
  let w := (s.staged 0).getD 0 0
  { s with
    vr := s.vr.setIfInBounds (ch.toNat - 1) (s.reading w)
    wbuf := cellSet 0 w s.wbuf }.setResult (voltDecode w)

/-- The snapshot the staged words give (R224, R225). -/
def State.snapshotTaken (s : State) : Snapshot :=
  let w (k i : Nat) : Word := (s.staged k).getD i 0
  { written := true
    online := true
    addr := w 0 0
    versionRaw := w 1 0
    baudCode := w 2 0
    baud := baudDecode (w 2 0)
    ioDir := w 3 0
    ioVal := w 4 0
    dropMask := maskDecode (w 5 0) (w 5 1)
    setTemp := w 6 0
    curTemp := w 7 0
    fanMa := w 8 0
    acRaw := w 9 0
    acOn := w 9 0 == 1
    nameLen := BitVec.ofNat 7 (textLen (s.staged 10))
    nameAllFf := allFf (s.staged 10)
    serialLen := BitVec.ofNat 6 (textLen (s.staged 11))
    serialAllFf := allFf (s.staged 11)
    tsLo := s.time.extractLsb' 0 32
    tsHi := s.time.extractLsb' 32 32
    nameW := Vector.ofFn fun i : Fin 32 => w 10 i.val
    serialW := Vector.ofFn fun i : Fin 31 => w 11 i.val }

/-- READ_SNAPSHOT's commit (R224). -/
def State.commitSnapshot (s : State) : State := { s with snap := s.snapshotTaken }.setResult 1

/-- The commit of the six single-register writes (R226): RESULT is the raw word written. -/
def State.commitWrite (s : State) : State :=
  s.setResult ((((s.td.head?.map TxnDesc.values).getD []).getD 0 0).setWidth 32)

/-- `commit(STAGE)` of a command. A pure command has no transaction, and a frame is none of the host's
commands: nothing to write. -/
def State.commit (s : State) : Instr → State
  | .readHolding _ _ c => s.commitReadHolding c
  | .writeMultiple _ _ n => s.commitWriteMultiple n
  | .readAllVoltages => s.commitAllVoltages
  | .readSingleVoltage ch => s.commitSingleVoltage ch
  | .readSnapshot => s.commitSnapshot
  | .writeDeviceAddress _ | .writeBaudRate _ | .writeIoDirection _ | .writeIoValue _
  | .writeSetTemperature _ | .writeDropThreshold _ _ => s.commitWrite
  | .crcCalc _ | .crcVerify _ | .crcAppend _ => s
  | .frameReadReq _ _ _ | .frameWriteReq _ _ _ | .frameReadRsp _ _ | .frameWriteRsp _ => s
  | .voltDecode _ | .voltEncode _ | .thrDecode _ | .thrEncode _ | .baudDecode _ | .baudEncode _ => s
  | .maskDecode _ _ | .textDecode _ | .regLookup _ => s
  | .rtuReadHoldingRegisters _ _ _ | .rtuReadException _ _ _ => s
  | .rtuWriteMultipleRegisters _ _ _ | .rtuWriteException _ _ _ => s

/-- `on_fail()` of a command: READ_SNAPSHOT's alone does something (R224). -/
def State.onFail (s : State) : Instr → State
  | .readSnapshot => s.snapOffline
  | .readHolding _ _ _ | .writeMultiple _ _ _ | .readAllVoltages | .readSingleVoltage _ => s.keep
  | .writeDeviceAddress _ | .writeBaudRate _ | .writeIoDirection _ | .writeIoValue _
  | .writeSetTemperature _ | .writeDropThreshold _ _ => s.keep
  | .crcCalc _ | .crcVerify _ | .crcAppend _ => s.keep
  | .frameReadReq _ _ _ | .frameWriteReq _ _ _ | .frameReadRsp _ _ | .frameWriteRsp _ => s.keep
  | .voltDecode _ | .voltEncode _ | .thrDecode _ | .thrEncode _ | .baudDecode _ | .baudEncode _ => s.keep
  | .maskDecode _ _ | .textDecode _ | .regLookup _ => s.keep
  | .rtuReadHoldingRegisters _ _ _ | .rtuReadException _ _ _ => s.keep
  | .rtuWriteMultipleRegisters _ _ _ | .rtuWriteException _ _ _ => s.keep

/-- The running command, read from CUR alone (10_state.md R41). -/
def State.running (s : State) : Except DecodeError Instr :=
  decodeFields s.cur.opc s.cur.a s.cur.b s.cur.arg

/-- The running command's commit. -/
def State.commitRunning (s : State) : State :=
  match s.running with
  | .ok i => s.commit i
  | .error _ => s

/-- The running command's on_fail. -/
def State.onFailRunning (s : State) : State :=
  match s.running with
  | .ok i => s.onFail i
  | .error _ => s

end Sys2Proof.Machine
end

