-- ==== Sys2Proof/Machine/Engine.lean ====
section
/-! DEFINITION. The three block steps of a transaction (42_rtu_transaction.md R150): SENDING, the poll of AWAITING,
and VALIDATING. -/

namespace Sys2Proof.Machine

/-- The SENDING step (R153), for the request `frame` = TXBUF[0..TX_LEN). -/
def State.sendStep (s : State) (frame : List Byte) : State :=
  let s := { s with link := s.link.discard }
  match s.link.send frame with
  | none => s.endFail State.onFailRunning .sendFailed 0
  | some l =>
    { s with
      link := l
      tr := { s.tr with r := s.cfg.pollRetries }
      status := { s.status with retriesLeft := s.cfg.pollRetries, state := .awaiting } }

/-- The bytes a poll takes (R156), stored at the end of RXBUF. -/
def State.takeBytes (s : State) : State :=
  let rx := s.rxBytes
  let got := collect s.tr.need rx s.link.rxq
  { s with
    rxbuf := cellsWrite (w := 8) rx.length (got.1.drop rx.length) s.rxbuf
    rxCount := BitVec.ofNat 9 got.1.length
    link := { s.link with rxq := got.2 } }

/-- The AWAITING step, a poll (R156): the reply is complete, or the last poll has failed, or one fewer is left. -/
def State.pollStep (s : State) : State :=
  let t := s.takeBytes
  if t.rxCount.toNat = t.tr.need t.rxBytes then
    { t with status := { t.status with state := .validating, retriesLeft := 0 } }
  else if t.tr.r = 0 then t.endFail State.onFailRunning .replyIncomplete 0
  else
    { t with
      tr := { t.tr with r := t.tr.r - 1 }
      status := { t.status with retriesLeft := t.tr.r - 1 } }

/-- `STAGE[k] <- w` (R159). -/
def State.stageWords (s : State) (k : Nat) (w : List Word) : State := { s with stage := s.stage.take k ++ [w] }

/-- The VALIDATING step (R159), for the reply `rx` = RXBUF[0..RX_COUNT). -/
def State.validateStep (s : State) (rx : List Byte) : State :=
  match s.tr.validate rx with
  | .error (e, x) => s.endFail State.onFailRunning e x
  | .ok w =>
    let k := s.seq.idx.toNat
    let s := s.stageWords k w
    match s.td[k + 1]? with
    | some d => s.startTxn State.onFailRunning (k + 1) d
    | none => s.commitRunning.endOk

/-- A frame with a function code the block both sends and receives (0x03, 0x10; 30_encoding.md R89): the request it
sends in SENDING, the reply it validates in VALIDATING, and otherwise bytes that arrive (log 7). -/
def State.requestOrReply (s : State) (frame : List Byte) : State :=
  match s.status.state with
  | .sending => s.sendStep frame
  | .validating => s.validateStep frame
  | .idle | .awaiting => s.receive frame

/-- A frame with an exception function code (0x83, 0x90): a reply only (R89). -/
def State.replyOnly (s : State) (frame : List Byte) : State :=
  match s.status.state with
  | .validating => s.validateStep frame
  | .idle | .sending | .awaiting => s.receive frame

end Sys2Proof.Machine
end

