-- ==== Sys2Proof/Machine/WireFrames.lean ====
section
/-! DEFINITION. The four wire frames of 30_encoding.md R89 and R90 as the block executes them: a request as it is sent
(42_rtu_transaction.md R153), a reply as it is validated (R159). -/

namespace Sys2Proof.Machine

/-- Function code 0x03: a read request or a normal read reply (R90, R120, R131). -/
def execRtuReadHoldingRegisters (u : Byte) (body : List Byte) (crc : Word) (s : State) :
    Host.Outcome State Fault Refusal :=
  .next (s.requestOrReply (frameBytes u 0x03 body crc))

/-- Function code 0x83: a read exception reply (R90, R131). -/
def execRtuReadException (u code : Byte) (crc : Word) (s : State) : Host.Outcome State Fault Refusal :=
  .next (s.replyOnly (frameBytes u 0x83 [code] crc))

/-- Function code 0x10: a write request or a normal write reply (R90, R123, R135). -/
def execRtuWriteMultipleRegisters (u : Byte) (body : List Byte) (crc : Word) (s : State) :
    Host.Outcome State Fault Refusal :=
  .next (s.requestOrReply (frameBytes u 0x10 body crc))

/-- Function code 0x90: a write exception reply (R90, R135). -/
def execRtuWriteException (u code : Byte) (crc : Word) (s : State) : Host.Outcome State Fault Refusal :=
  .next (s.replyOnly (frameBytes u 0x90 [code] crc))

end Sys2Proof.Machine
end

