-- ==== Sys2Proof/Machine/Dispatch.lean ====
section
/-! DEFINITION. Every instruction to its meaning. -/

namespace Sys2Proof.Machine

def exec (i : Instr) (s : State) : Host.Outcome State Fault Refusal :=
  match i with
  | .crcCalc n => Sys2Proof.Machine.execCrcCalc n s
  | .crcVerify n => Sys2Proof.Machine.execCrcVerify n s
  | .crcAppend n => Sys2Proof.Machine.execCrcAppend n s
  | .frameReadReq u st c => Sys2Proof.Machine.execFrameReadReq u st c s
  | .frameWriteReq u st n => Sys2Proof.Machine.execFrameWriteReq u st n s
  | .frameReadRsp u c => Sys2Proof.Machine.execFrameReadRsp u c s
  | .frameWriteRsp u => Sys2Proof.Machine.execFrameWriteRsp u s
  | .readHolding u st c => Sys2Proof.Machine.execReadHolding u st c s
  | .writeMultiple u st n => Sys2Proof.Machine.execWriteMultiple u st n s
  | .voltDecode raw => Sys2Proof.Machine.execVoltDecode raw s
  | .voltEncode x => Sys2Proof.Machine.execVoltEncode x s
  | .thrDecode raw => Sys2Proof.Machine.execThrDecode raw s
  | .thrEncode x => Sys2Proof.Machine.execThrEncode x s
  | .baudDecode code => Sys2Proof.Machine.execBaudDecode code s
  | .baudEncode rate => Sys2Proof.Machine.execBaudEncode rate s
  | .maskDecode hw lw => Sys2Proof.Machine.execMaskDecode hw lw s
  | .textDecode n => Sys2Proof.Machine.execTextDecode n s
  | .regLookup id => Sys2Proof.Machine.execRegLookup id s
  | .readAllVoltages => Sys2Proof.Machine.execReadAllVoltages s
  | .readSingleVoltage ch => Sys2Proof.Machine.execReadSingleVoltage ch s
  | .readSnapshot => Sys2Proof.Machine.execReadSnapshot s
  | .writeDeviceAddress a => Sys2Proof.Machine.execWriteDeviceAddress a s
  | .writeBaudRate rate => Sys2Proof.Machine.execWriteBaudRate rate s
  | .writeIoDirection v => Sys2Proof.Machine.execWriteIoDirection v s
  | .writeIoValue v => Sys2Proof.Machine.execWriteIoValue v s
  | .writeSetTemperature v => Sys2Proof.Machine.execWriteSetTemperature v s
  | .writeDropThreshold ch x => Sys2Proof.Machine.execWriteDropThreshold ch x s
  | .rtuReadHoldingRegisters u body crc => Sys2Proof.Machine.execRtuReadHoldingRegisters u body crc s
  | .rtuReadException u code crc => Sys2Proof.Machine.execRtuReadException u code crc s
  | .rtuWriteMultipleRegisters u body crc => Sys2Proof.Machine.execRtuWriteMultipleRegisters u body crc s
  | .rtuWriteException u code crc => Sys2Proof.Machine.execRtuWriteException u code crc s

end Sys2Proof.Machine
end

