-- ==== Sys2Proof/Machine/HostAccess.lean ====
section
/-! DEFINITION. Host reads and writes of the HOST space (10_state.md R21 to R35, R43, R44, R47; 20_memory.md R63;
60_exceptions.md R261, R262), but for the write of CMD that issues a command. -/

namespace Sys2Proof.Machine

/-- What a HOST index names (R23). Cells are numbered from 0 within their buffer or bank. -/
inductive HostCell where
  | cmd | arg | status | result | fault | sessionUnit
  | cfgIfdMs | cfgPollRetries | cfgPollIntervalMs | cfgTimeoutMs
  | link | bufLen | txLen | rxCount | seq
  | buf (i : Nat) | wbuf (i : Nat) | txbuf (i : Nat) | rxbuf (i : Nat)
  /-- Register `f` (0 to 7) of the entry of channel `c + 1` (R43). -/
  | vr (c f : Nat)
  /-- Register `f` of the SNAP bank (R44). -/
  | snap (f : Nat)
  | unmapped
  deriving DecidableEq, Repr

/-- Offsets of the SNAP bank that are mapped (R44): 0x11 to 0x1F are not. -/
def snapMapped (f : Nat) : Bool := decide (f ≤ 0x10) || (decide (0x20 ≤ f) && decide (f ≤ 0x5E))

/-- The register map of R23. -/
def hostCell (index : BitVec 12) : HostCell :=
  let i := index.toNat
  if i < 0x100 then
    match i with
    | 0x000 => .cmd
    | 0x001 => .arg
    | 0x002 => .status
    | 0x003 => .result
    | 0x004 => .fault
    | 0x005 => .sessionUnit
    | 0x006 => .cfgIfdMs
    | 0x007 => .cfgPollRetries
    | 0x008 => .cfgPollIntervalMs
    | 0x009 => .cfgTimeoutMs
    | 0x00A => .link
    | 0x00B => .bufLen
    | 0x00C => .txLen
    | 0x00D => .rxCount
    | 0x00E => .seq
    | _ => .unmapped
  else if i < bufBase + Config.bufCap then .buf (i - bufBase)
  else if wbufBase ≤ i ∧ i < wbufBase + Config.wbufCap then .wbuf (i - wbufBase)
  else if txbufBase ≤ i ∧ i < txbufBase + Config.txbufCap then .txbuf (i - txbufBase)
  else if rxbufBase ≤ i ∧ i < rxbufBase + Config.rxbufCap then .rxbuf (i - rxbufBase)
  else if 0x700 ≤ i ∧ i < 0x800 then .vr ((i - 0x700) / 8) ((i - 0x700) % 8)
  else if 0x800 ≤ i ∧ snapMapped (i - 0x800) = true then .snap (i - 0x800)
  else .unmapped

/-- Register `f` of a VR entry (R43): VR_VALID and the reserved registers always hold a value; the others hold one
once the entry has been written. -/
def VrEntry.register (e : VrEntry) (f : Nat) : Option Reg :=
  match f with
  | 0 => some (flagBit e.valid 0)
  | 1 => if e.valid then some (e.raw.setWidth 32) else none
  | 2 => if e.valid then some e.uv else none
  | 3 => if e.valid then some (e.unit.setWidth 32) else none
  | 4 => if e.valid then some e.tsLo else none
  | 5 => if e.valid then some e.tsHi else none
  | _ => some 0

/-- Register `f` of a SNAP bank that has been written (R44). -/
def Snapshot.field (b : Snapshot) (f : Nat) : Reg :=
  match f with
  | 0x00 => flagBit b.online 0
  | 0x01 => b.addr.setWidth 32
  | 0x02 => b.versionRaw.setWidth 32
  | 0x03 => b.baudCode.setWidth 32
  | 0x04 => b.baud
  | 0x05 => b.ioDir.setWidth 32
  | 0x06 => b.ioVal.setWidth 32
  | 0x07 => b.dropMask
  | 0x08 => b.setTemp.setWidth 32
  | 0x09 => b.curTemp.setWidth 32
  | 0x0A => b.fanMa.setWidth 32
  | 0x0B => b.acRaw.setWidth 32
  | 0x0C => flagBit b.acOn 0
  | 0x0D => flagBit b.nameAllFf 8 ||| b.nameLen.setWidth 32
  | 0x0E => flagBit b.serialAllFf 8 ||| b.serialLen.setWidth 32
  | 0x0F => b.tsLo
  | 0x10 => b.tsHi
  | _ =>
    if f < 0x40 then (b.nameW.toList.getD (f - 0x20) 0).setWidth 32
    else (b.serialW.toList.getD (f - 0x40) 0).setWidth 32

/-- Register `f` of the SNAP bank: SNAP_ONLINE always holds a value, the others once a snapshot is committed. -/
def Snapshot.register (b : Snapshot) (f : Nat) : Option Reg :=
  if f = 0 ∨ b.written = true then some (b.field f) else none

/-- What a register holds, at 32 bits with its undefined bits 0 (R21); `none` where a read is a draw (R47, R63). -/
def State.hostValue (s : State) : HostCell → Option Reg
  | .cmd => some s.cmd
  | .arg => some s.arg
  | .status => some s.status.word
  | .result => if s.resultWritten then some s.result else none
  | .fault => some s.fault.word
  | .sessionUnit => some s.session.word
  | .cfgIfdMs => some (s.cfg.ifdMs.setWidth 32)
  | .cfgPollRetries => some (s.cfg.pollRetries.setWidth 32)
  | .cfgPollIntervalMs => some (s.cfg.pollIntervalMs.setWidth 32)
  | .cfgTimeoutMs => some (s.cfg.timeoutMs.setWidth 32)
  | .link => some (flagBit s.link.isOpen 0)
  | .bufLen => some (s.bufLen.setWidth 32)
  | .txLen => some (s.txLen.setWidth 32)
  | .rxCount => some (s.rxCount.setWidth 32)
  | .seq => some s.seq.word
  | .buf i => (cellGet (w := 8) s.buf i).map (BitVec.setWidth 32)
  | .wbuf i => (cellGet s.wbuf i).map (BitVec.setWidth 32)
  | .txbuf i => (cellGet (w := 8) s.txbuf i).map (BitVec.setWidth 32)
  | .rxbuf i => (cellGet (w := 8) s.rxbuf i).map (BitVec.setWidth 32)
  | .vr c f => (s.vr.toList.getD c VrEntry.reset).register f
  | .snap f => s.snap.register f
  | .unmapped => none

/-- FAULT.BAD_ACCESS set (R27, R261). -/
def State.badAccess (s : State) : State := { s with fault := { s.fault with badAccess := true } }

/-- FAULT.BUSY_WRITE set (R27, R261). -/
def State.busyWrite (s : State) : State := { s with fault := { s.fault with busyWrite := true } }

/-- FAULT.CMD_OVERRUN set (R24, R261). -/
def State.cmdOverrun (s : State) : State := { s with fault := { s.fault with cmdOverrun := true } }

/-- A host read: the register's value, or a free value (log 2), to the host; an unmapped index also sets
BAD_ACCESS (R63). -/
def State.hostRead (s : State) (index : BitVec 12) : State :=
  let s' := { s with rdata := (s.hostValue (hostCell index)).getD (s.free 32 index.toNat) }
  if hostCell index = .unmapped then s'.badAccess else s'

/-- A write of a RW register or buffer cell other than CMD: refused while BUSY (R261, R263). -/
def State.writable (s written : State) : State := if s.status.busy then s.busyWrite else written

/-- A host write of anything but CMD (R23, R261, R262). Bits a register does not define are dropped (R21). -/
def State.hostWrite (s : State) (c : HostCell) (v : Reg) : State :=
  match c with
  | .arg => s.writable { s with arg := v }
  | .sessionUnit => s.writable { s with session := { unit := v.setWidth 8, valid := true } }
  | .cfgIfdMs => s.writable { s with cfg := { s.cfg with ifdMs := v.setWidth 16 } }
  | .cfgPollRetries => s.writable { s with cfg := { s.cfg with pollRetries := v.setWidth 8 } }
  | .cfgPollIntervalMs => s.writable { s with cfg := { s.cfg with pollIntervalMs := v.setWidth 16 } }
  | .cfgTimeoutMs => s.writable { s with cfg := { s.cfg with timeoutMs := v.setWidth 16 } }
  | .bufLen =>
    -- An illegal value sets BAD_ACCESS, and while BUSY it sets BUSY_WRITE too (log 12, log 13).
    if v.toNat > Config.bufCap then s.badAccess.writable s.badAccess
    else s.writable { s with bufLen := v.setWidth 9 }
  | .buf i => s.writable { s with buf := cellSet (w := 8) i (v.setWidth 8) s.buf }
  | .wbuf i => s.writable { s with wbuf := cellSet i (v.setWidth 16) s.wbuf }
  | .cmd => s
  | .status | .result | .fault | .link | .txLen | .rxCount | .seq => s.badAccess
  | .txbuf _ | .rxbuf _ | .vr _ _ | .snap _ | .unmapped => s.badAccess

end Sys2Proof.Machine
end

