-- ==== Sys2Proof/Machine/Block.lean ====
section
/-! DEFINITION. Turns: the issue of a command (30_encoding.md R81), the block's own step (42_rtu_transaction.md R150),
and the turn of each agent (00_scope.md R9). -/

namespace Sys2Proof.Machine

/-- A host write of `c` to CMD (R81): refused while BUSY (10_state.md R24); else the command is accepted and run, and
an unassigned code is IllegalCommand 1 (R84). -/
def issue (s : State) (c : Reg) : Host.Outcome State Fault Refusal :=
  if s.status.busy then .next s.cmdOverrun
  else
    match decodeCommand c s.arg with
    | .ok i => exec i (s.accept c)
    | .error _ => .next ((s.accept c).raise .unassignedOpcode)

/-- A block step on a frame: the instruction the frame decodes to, or `other` for bytes that are no frame of
30_encoding.md R90 (R93, R137). -/
def runFrame (s : State) (frame : List Byte) (other : State) : Host.Outcome State Fault Refusal :=
  match decodeFrame frame with
  | .ok i => exec i s
  | .error _ => .next other

/-- The block's step (R150). In IDLE no step is enabled and nothing changes (70_reset_and_hazards.md R299). -/
def blockStep (s : State) : Host.Outcome State Fault Refusal :=
  match s.status.state with
  | .idle => .next s
  | .sending => runFrame s s.txBytes (s.sendStep s.txBytes)
  | .awaiting => .next s.pollStep
  | .validating => runFrame s s.rxBytes (s.validateStep s.rxBytes)

/-- One input: a turn of the host, the link, the block or the environment (R9; log 4). -/
def takeInput (s : State) (i : Input) : Host.Outcome State Fault Refusal :=
  match i with
  | .hostWrite index v => if hostCell index = .cmd then issue s v else .next (s.hostWrite (hostCell index) v)
  | .hostRead index => .next (s.hostRead index)
  | .block => blockStep s
  | .reset => .next s.takeReset
  | .linkReceive bytes => .next (s.receive bytes)
  | .linkDrain n => .next { s with link := { s.link with txq := s.link.txq.drop n } }
  | .linkOpen o => .next (s.changeOpen o)
  | .linkRefuse r => .next { s with link := { s.link with refuses := r } }
  | .setTime t => .next { s with time := t }

/-- The next input is taken off the list, and the free values move on (log 3, log 4). -/
def State.nextTurn (s : State) (rest : List Input) : State := { s with inputs := rest, draws := s.draws + 1 }

/-- A state whose next turn is the issue of the command `cmd`, `arg` (log 5): ARG holds `arg`, the block is idle, and
the next input is the host's write of CMD. -/
def State.withCommand (s : State) (cmd arg : Reg) : State :=
  { s with
    arg := arg
    status := { s.status with state := .idle, busy := false }
    inputs := .hostWrite 0 cmd :: s.inputs }

/-- A state whose next turn is the VALIDATING step on the reply `bytes` (log 6): a transaction of one register is in
flight, of the function code the reply answers, and the reply is collected. -/
def State.withReply (s : State) (bytes : List Byte) : State :=
  let read := bytes.getD 1 0 = 0x03 ∨ bytes.getD 1 0 = 0x83
  let d := if read then readDesc 0 0 1 else writeDesc 0 0 [0]
  { s with
    status := { s.status with state := .validating, busy := true, done := false }
    cur := { opc := if read then 0x14 else 0x15, a := 0, b := 0, arg := 1 }
    td := [d]
    seq := { idx := 0, total := 1 }
    tr := { fc := d.fc, unit := d.unit, start := d.start, count := d.count, r := 0 }
    rxbuf := cellsWrite (w := 8) 0 bytes s.rxbuf
    rxCount := BitVec.ofNat 9 bytes.length
    inputs := .block :: s.inputs }

/-- A state whose next turn fetches and runs `code`. -/
def State.withCode (s : State) (code : Code) : State :=
  match code with
  | .command cmd arg => s.withCommand cmd arg
  | .frame bytes => s.withReply bytes

end Sys2Proof.Machine
end

