-- ==== Sys2Proof/Machine/Step.lean ====
section
/-! DEFINITION. One step: the next turn of the input list, and the block's own step when the list is empty. -/

namespace Sys2Proof.Machine

/-- One step (log 4): the next input if there is one, else the block's step (70_reset_and_hazards.md R290: a block
step that stays enabled is eventually taken). -/
def step (s : State) : Host.Outcome State Fault Refusal :=
  match s.inputs with
  | [] => blockStep s
  | i :: rest => takeInput (s.nextTurn rest) i

/-- `s` with a table word stored where the next step fetches (log 5, log 6, log 8). -/
def State.withFetchWord (s : State) (nbits w : Nat) : State := s.withCode (tableCode nbits w)

end Sys2Proof.Machine
end

