-- ==== Sys2Proof/Safety.lean ====
section
/-! DEFINITION. What a good state is: the invariant that every step keeps, and how many block steps a running command has
left (70_reset_and_hazards.md R291). -/

namespace Sys2Proof.Machine

/-- The buffer holds the values `vs` from cell 0 on. -/
abbrev cellsHold {w : Nat} (m : Store w) (vs : List (BitVec w)) : Prop :=
  ∀ i, (h : i < vs.length) → cellGet m i = some vs[i]

/-- The buffer's cells 0 to `n - 1` have all been written. -/
abbrev cellsWritten {w : Nat} (m : Store w) (n : Nat) : Prop := ∀ i, i < n → (cellGet m i).isSome = true

/-- A descriptor of R151: function code 0x03 with no values or 0x10 with `count` values, and 1 to 127 registers. -/
abbrev TxnDesc.ok (d : TxnDesc) : Prop :=
  countOk d.count = true ∧
    ((d.fc = 0x03 ∧ d.values = []) ∨ (d.fc = 0x10 ∧ d.values.length = d.count.toNat))

/-- The transaction in flight is the one of the descriptor (R152). -/
abbrev Tr.isOf (t : Tr) (d : TxnDesc) : Prop :=
  t.fc = d.fc ∧ t.unit = d.unit ∧ t.start = d.start ∧ t.count = d.count

/-- The descriptor list a link command runs, from its operands and the latched unit `u` (R163, R166, R221 to R232), its
operands being in their domains; no list for an instruction that runs no transaction. -/
def descsOf (u : Byte) : Instr → List TxnDesc → Prop
  | .readHolding v st c, td =>
    countOk c = true ∧ td = [{ fc := 0x03, unit := v, start := st, count := c, values := [] }]
  | .writeMultiple v st n, td =>
    countOk n = true ∧ ∃ ws : List Word, ws.length = n.toNat ∧
      td = [{ fc := 0x10, unit := v, start := st, count := n, values := ws }]
  | .readAllVoltages, td => td = [readDesc u 0x8010 32]
  | .readSingleVoltage ch, td => channelOk ch = true ∧ td = [readDesc u (voltAddr ch) 1]
  | .readSnapshot, td => td = snapshotDescs u
  | .writeDeviceAddress a, td => 1 ≤ a.toNat ∧ a.toNat ≤ 128 ∧ td = [writeDesc u 0x8000 [a]]
  | .writeBaudRate rate, td => ∃ code, baudEncode rate = .ok code ∧ td = [writeDesc u 0x8002 [code]]
  | .writeIoDirection v, td => td = [writeDesc u 0x8003 [v]]
  | .writeIoValue v, td => td = [writeDesc u 0x8004 [v]]
  | .writeSetTemperature v, td => td = [writeDesc u 0x8007 [v]]
  | .writeDropThreshold ch x, td =>
    channelOk ch = true ∧ ∃ v, thrEncode x = .ok v ∧ td = [writeDesc u (thrAddr ch) [v]]
  | .crcCalc _, _ | .crcVerify _, _ | .crcAppend _, _ => False
  | .frameReadReq _ _ _, _ | .frameWriteReq _ _ _, _ | .frameReadRsp _ _, _ | .frameWriteRsp _, _ => False
  | .voltDecode _, _ | .voltEncode _, _ | .thrDecode _, _ | .thrEncode _, _ => False
  | .baudDecode _, _ | .baudEncode _, _ | .maskDecode _ _, _ | .textDecode _, _ | .regLookup _, _ => False
  | .rtuReadHoldingRegisters _ _ _, _ | .rtuReadException _ _ _, _ => False
  | .rtuWriteMultipleRegisters _ _ _, _ | .rtuWriteException _ _ _, _ => False

/-- What holds while a command runs (BUSY = 1). -/
structure Running (s : State) : Prop where
  /-- CUR is a link command, and TD is its descriptor list for the latched unit (R41, R216). -/
  command : ∃ i, s.running = .ok i ∧ descsOf s.unit i s.td
  /-- Every descriptor has a function code of R236 and a count of R151. -/
  descs : ∀ d ∈ s.td, d.ok
  /-- SEQ_TOTAL is the number of transactions (R35, R218). -/
  total : s.seq.total.toNat = s.td.length
  /-- The transaction in flight is TD[SEQ_IDX], and its request is in TXBUF (R40, R152). -/
  current : ∃ d, s.td[s.seq.idx.toNat]? = some d ∧ s.tr.isOf d ∧
    s.txLen.toNat = d.frame.length ∧ cellsHold (w := 8) s.txbuf d.frame
  /-- The words of the earlier transactions are staged (R219). -/
  staged : s.seq.idx.toNat ≤ s.stage.length ∧
    ∀ k, k < s.seq.idx.toNat → ∀ d, s.td[k]? = some d → d.fc = 0x03 → (s.staged k).length = d.count.toNat
  /-- The reply bytes counted have been written, and there are no more than the reply needs (R156). -/
  reply : cellsWritten (w := 8) s.rxbuf s.rxCount.toNat ∧ s.rxCount.toNat ≤ s.tr.need s.rxBytes
  /-- Nothing is collected before the request goes out (R152). -/
  sending : s.status.state = .sending → s.rxCount = 0
  /-- RETRIES_LEFT shows TR.r in AWAITING (R26, R42, R156). -/
  retries : s.status.state = .awaiting → s.status.retriesLeft = s.tr.r
  /-- VALIDATING is entered with the reply complete (R156). -/
  validating : s.status.state = .validating → s.rxCount.toNat = s.tr.need s.rxBytes

/-- The derived fields of a committed snapshot are those of its raw words (R224, R225). -/
structure Snapshot.coherent (b : Snapshot) : Prop where
  baud : b.baud = baudDecode b.baudCode
  acOn : b.acOn = true ↔ b.acRaw = 1
  nameLen : b.nameLen.toNat = textLen b.nameW.toList
  nameAllFf : b.nameAllFf = allFf b.nameW.toList
  serialLen : b.serialLen.toNat = textLen b.serialW.toList
  serialAllFf : b.serialAllFf = allFf b.serialW.toList

/-- The invariant. -/
structure Inv (s : State) : Prop where
  /-- The buffers are canonical and within their capacities (R37 to R40). -/
  buf : Memory.wf Config.bufCap s.buf
  wbuf : Store.wf Config.wbufCap s.wbuf
  txbuf : Memory.wf Config.txbufCap s.txbuf
  rxbuf : Memory.wf Config.rxbufCap s.rxbuf
  /-- The lengths are within the capacities (R33, R34). -/
  bufLen : s.bufLen.toNat ≤ Config.bufCap
  txLen : s.txLen.toNat ≤ Config.txbufCap
  rxCount : s.rxCount.toNat ≤ Config.rxbufCap
  /-- BUSY is 1 exactly outside IDLE (R26, R160). -/
  busy : s.status.busy = true ↔ s.status.state ≠ .idle
  /-- DONE is 0 while a command runs (R26). -/
  done : s.status.busy = true → s.status.done = false
  /-- OK is 1 only for a command that has ended without error (R26, R256). -/
  ok : s.status.ok = true → s.status.done = true ∧ s.status.err = none
  /-- An error is recorded only of a command that has ended (R256). -/
  err : s.status.err ≠ none → s.status.done = true
  /-- EXC_CODE is 0 but after a DeviceExceptionError (R252). -/
  excCode : s.status.err ≠ some .exception → s.status.excCode = 0
  /-- RETRIES_LEFT is 0 outside AWAITING (R26). -/
  retriesLeft : s.status.state ≠ .awaiting → s.status.retriesLeft = 0
  /-- Polling with the stream closed, the stream has closed since polling began (R153, R168). -/
  cut : s.status.state = .awaiting → s.link.isOpen = false → s.link.cut = true
  /-- A running command is what CUR, U, TD, TR and the buffers say it is. -/
  running : s.status.busy = true → Running s
  /-- Every written VR entry decodes its own raw word (R221, R222, R234). -/
  vr : ∀ e ∈ s.vr.toList, e.valid = true → e.uv = voltDecode e.raw
  /-- SNAP_ONLINE is 1 only for a committed snapshot, and a committed snapshot is coherent (R224, R235). -/
  snapOnline : s.snap.online = true → s.snap.written = true
  snapCoherent : s.snap.written = true → s.snap.coherent

/-- How many block steps the running command has left at most: one SENDING step, CFG_POLL_RETRIES + 1 polls and one
VALIDATING step for each transaction still to come, and what is left of the one in flight (R291). -/
def State.stepsLeft (s : State) : Nat :=
  let perTxn := s.cfg.pollRetries.toNat + 3
  let later := (s.td.length - (s.seq.idx.toNat + 1)) * perTxn
  match s.status.state with
  | .idle => 0
  | .sending => later + perTxn
  | .awaiting => later + s.tr.r.toNat + 2
  | .validating => later + 1

/-- The block polls for a reply that cannot be completed: the stream is cut (R168), and no bytes of RXQ complete it. -/
structure State.starved (s : State) : Prop where
  awaiting : s.status.state = .awaiting
  cut : s.link.cut = true
  short : ∀ taken rest, s.link.rxq = taken ++ rest →
    (s.rxBytes ++ taken).length < s.tr.need (s.rxBytes ++ taken)

/-! ### The endings and the start of a command, written out for the statements -/

/-- `complete(v)` (60_exceptions.md R256). -/
def State.afterSuccess (s : State) (v : Reg) : State :=
  { s with result := v, resultWritten := true, status := { s.status with ok := true, done := true } }

/-- `raise K(r)` (R256). -/
def State.afterError (s : State) (e : CmdError) : State :=
  { s with status := { s.status with err := some e, ok := false, done := true } }

/-- `end_ok()` (42_rtu_transaction.md R160). -/
def State.afterEndOk (s : State) : State :=
  { s with status := { s.status with
      state := .idle, busy := false, retriesLeft := 0, ok := true, done := true } }

/-- `end_fail(kind, reason, exc)` of a command with no `on_fail` (R160), STAGE discarded (44_device_ops.md R219). -/
def State.afterEndFail (s : State) (e : CmdError) (x : Byte) : State :=
  { s with
    stage := []
    status := { s.status with
      state := .idle, busy := false, retriesLeft := 0, ok := false, err := some e, excCode := x, done := true } }

/-- Transaction `k` of the descriptor list `td`, whose entry `k` is `d`, has been started (R152, R163, R217). -/
def State.afterStart (s : State) (td : List TxnDesc) (k : Nat) (d : TxnDesc) : State :=
  { s with
    td := td
    seq := { idx := BitVec.ofNat 8 k, total := BitVec.ofNat 8 td.length }
    txbuf := cellsWrite (w := 8) 0 d.frame s.txbuf
    txLen := BitVec.ofNat 9 d.frame.length
    rxCount := 0
    tr := { fc := d.fc, unit := d.unit, start := d.start, count := d.count, r := s.tr.r }
    status := { s.status with busy := true, state := .sending } }

/-- The running command's last transaction is in VALIDATING, no input is waiting, and its reply is valid with words `w`. -/
abbrev State.lastReplyGives (s : State) (w : List Word) : Prop :=
  s.inputs = [] ∧ s.status.state = .validating ∧ s.td.length = s.seq.idx.toNat + 1 ∧
    s.tr.validate s.rxBytes = .ok w

/-- The device-level commands (44_device_ops.md R216). -/
def usesSession : Instr → Bool
  | .readAllVoltages | .readSingleVoltage _ | .readSnapshot => true
  | .writeDeviceAddress _ | .writeBaudRate _ | .writeIoDirection _ | .writeIoValue _ => true
  | .writeSetTemperature _ | .writeDropThreshold _ _ => true
  | .crcCalc _ | .crcVerify _ | .crcAppend _ => false
  | .frameReadReq _ _ _ | .frameWriteReq _ _ _ | .frameReadRsp _ _ | .frameWriteRsp _ => false
  | .readHolding _ _ _ | .writeMultiple _ _ _ => false
  | .voltDecode _ | .voltEncode _ | .thrDecode _ | .thrEncode _ | .baudDecode _ | .baudEncode _ => false
  | .maskDecode _ _ | .textDecode _ | .regLookup _ => false
  | .rtuReadHoldingRegisters _ _ _ | .rtuReadException _ _ _ => false
  | .rtuWriteMultipleRegisters _ _ _ | .rtuWriteException _ _ _ => false

end Sys2Proof.Machine
end

