-- ==== Sys2Proof/Certificates/Slice0/Obligations.lean ====
section
/-! DEFINITION. The statements for the provers. -/

open Sys2Proof Sys2Proof.Machine

/-! ### Encodings (30_encoding.md) -/

/-- Every well-formed instruction, command or wire frame, is read back from its encoding with every operand. -/
def Obligations.DecodeOfEncode : Prop :=
  ∀ i : Instr, i.wf = true → decode (encode i) = .ok i

/-- Decoding, then encoding. R86, R90: a frame that decodes is exactly the frame its instruction encodes to. R83: a decoded
command, encoded again with its dash fields 0, has the same OPC and decodes to the same instruction; and what a command
decodes to depends on ARG[15:0] alone where R82 gives it N. (Which fields a command is read from is said next, and in the
statements of the pure commands.) -/
def Obligations.DecodedWordsReencode : Prop :=
  (∀ (bytes : List Byte) (i : Instr), decode (.frame bytes) = .ok i → i.wf = true ∧ encode i = .frame bytes) ∧
  (∀ (cmd arg : Reg) (i : Instr), decode (.command cmd arg) = .ok i →
    ∃ cmd' arg', encode i = .command cmd' arg' ∧ opcOf cmd' = opcOf cmd ∧ decode (.command cmd' arg') = .ok i) ∧
  (∀ (cmd arg arg' : Reg), opcOf cmd ∈ [0x01, 0x02, 0x03, 0x10, 0x11, 0x12, 0x14, 0x15, 0x26] →
    arg.setWidth 16 = arg'.setWidth 16 → decode (.command cmd arg) = decode (.command cmd arg'))

/-- R82, R84: the assigned command codes are exactly these 27, and any other is refused under its own name. The codes of
the link commands give the fields R82 gives them (those of the pure commands are read in their own statements). -/
def Obligations.AssignedCommandCodes : Prop :=
  ∀ cmd arg : Reg, ∀ (opc a : Byte) (b n : Word),
    opc = cmd.extractLsb' 0 8 → a = cmd.extractLsb' 8 8 → b = cmd.extractLsb' 16 16 → n = arg.extractLsb' 0 16 →
    (opc ∈ [0x01, 0x02, 0x03, 0x10, 0x11, 0x12, 0x13, 0x14, 0x15, 0x20, 0x21, 0x22, 0x23, 0x24, 0x25, 0x26,
        0x27, 0x30, 0x40, 0x41, 0x42, 0x43, 0x44, 0x45, 0x46, 0x47, 0x48] →
      ∃ i, decode (.command cmd arg) = .ok i) ∧
    (opc ∉ [0x01, 0x02, 0x03, 0x10, 0x11, 0x12, 0x13, 0x14, 0x15, 0x20, 0x21, 0x22, 0x23, 0x24, 0x25, 0x26,
        0x27, 0x30, 0x40, 0x41, 0x42, 0x43, 0x44, 0x45, 0x46, 0x47, 0x48] →
      decode (.command cmd arg) = .error (.unassignedOpcode opc)) ∧
    (opc = 0x14 → decode (.command cmd arg) = .ok (.readHolding a b n)) ∧
    (opc = 0x15 → decode (.command cmd arg) = .ok (.writeMultiple a b n)) ∧
    (opc = 0x40 → decode (.command cmd arg) = .ok .readAllVoltages) ∧
    (opc = 0x41 → decode (.command cmd arg) = .ok (.readSingleVoltage a)) ∧
    (opc = 0x42 → decode (.command cmd arg) = .ok .readSnapshot) ∧
    (opc = 0x43 → decode (.command cmd arg) = .ok (.writeDeviceAddress b)) ∧
    (opc = 0x44 → decode (.command cmd arg) = .ok (.writeBaudRate arg)) ∧
    (opc = 0x45 → decode (.command cmd arg) = .ok (.writeIoDirection b)) ∧
    (opc = 0x46 → decode (.command cmd arg) = .ok (.writeIoValue b)) ∧
    (opc = 0x47 → decode (.command cmd arg) = .ok (.writeSetTemperature b)) ∧
    (opc = 0x48 → decode (.command cmd arg) = .ok (.writeDropThreshold a arg))

/-- Words written out from R82 and R90 decode to the instructions they stand for. -/
def Obligations.WrittenOutWordsDecode : Prop :=
  decode (.command 0x80100114 0x00000002) = .ok (.readHolding 1 0x8010 2) ∧
  decode (.command 0x00000348 0x00BC4B20) = .ok (.writeDropThreshold 3 12340000) ∧
  decode (.command 0x03E80020 0) = .ok (.voltDecode 0x03E8) ∧
  decode (.command 0x00000001 0x00010006) = .ok (.crcCalc 6) ∧
  decode (.frame [0x01, 0x83, 0x02, 0xC0, 0xF1]) = .ok (.rtuReadException 1 2 0xF1C0)

/-! ### Steps -/

/-- R81: a host write of CMD while BUSY = 0, whose value with ARG decodes to `i`, is one step: the input is taken, CMD,
CUR, the outcome fields and SEQ are written, and `i` is run. -/
def Obligations.StepRunsIssuedCommand : Prop :=
  ∀ (s : State) (c : Reg) (rest : List Input) (i : Instr),
    s.inputs = .hostWrite 0 c :: rest → s.status.busy = false → decode (.command c s.arg) = .ok i →
    step s = exec i
      { s with
        inputs := rest
        draws := s.draws + 1
        cmd := c
        cur := { opc := c.extractLsb' 0 8, a := c.extractLsb' 8 8, b := c.extractLsb' 16 16, arg := s.arg }
        status := { s.status with done := false, ok := false, allFf := false, err := none, excCode := 0 }
        seq := { idx := 0, total := 0 } }

/-- A block step in SENDING runs the request in TXBUF, and one in VALIDATING the frame in RXBUF, when its bytes decode:
the block's own step when no input is left, or a block turn of the list. (That these steps run the frame as an
instruction is the model's reading of R89, R153 and R159, log 7.) And in every state, whatever the bytes, a block turn of
the list does what the block's own step does (R150, R93; that the list holds such turns is log 4): so every statement of
the block's own step, made with no input left, holds of a block turn. -/
def Obligations.BlockStepRunsDecodedFrame : Prop :=
  (∀ (s s' : State) (i : Instr),
    (s.inputs = [] ∧ s' = s) ∨
      (∃ rest, s.inputs = .block :: rest ∧ s' = { s with inputs := rest, draws := s.draws + 1 }) →
    (s.status.state = .sending → s'.txBytes.getD 1 0 ∈ [0x03, 0x10] → decode (.frame s'.txBytes) = .ok i →
      step s = exec i s') ∧
    (s.status.state = .validating → decode (.frame s'.rxBytes) = .ok i → step s = exec i s')) ∧
  (∀ (s t : State) (rest : List Input), s.inputs = .block :: rest →
    step { s with inputs := [], draws := s.draws + 1 } = .next t → step s = .next { t with inputs := rest })

/-- R84: an unassigned command code ends at once with IllegalCommand 1; but for CMD, CUR, the outcome fields and SEQ,
which every accepted command writes, nothing changes. -/
def Obligations.UnassignedCodeEndsAtOnce : Prop :=
  ∀ (s : State) (c : Reg) (rest : List Input),
    s.inputs = .hostWrite 0 c :: rest → s.status.busy = false →
    opcOf c ∉ [0x01, 0x02, 0x03, 0x10, 0x11, 0x12, 0x13, 0x14, 0x15, 0x20, 0x21, 0x22, 0x23, 0x24, 0x25, 0x26,
        0x27, 0x30, 0x40, 0x41, 0x42, 0x43, 0x44, 0x45, 0x46, 0x47, 0x48] →
    step s = .next
      { s with
        inputs := rest
        draws := s.draws + 1
        cmd := c
        cur := { opc := c.extractLsb' 0 8, a := c.extractLsb' 8 8, b := c.extractLsb' 16 16, arg := s.arg }
        status := { s.status with
          done := true, ok := false, allFf := false, err := some .unassignedOpcode, excCode := 0 }
        seq := { idx := 0, total := 0 } }

/-- No state stops the machine: every step answers a next state (R257, R259: an error is an outcome in STATUS). -/
def Obligations.EveryStepHasANextState : Prop := ∀ s : State, ∃ t, step s = .next t

/-- R299: in IDLE with no input the step changes nothing, nor does a block turn of the list (log 4), and link and TIME
inputs change no block state: bytes received, OPEN and the draining of TXQ (R48), TIME, and the refusal of the transport
(R72; that it is an input of the link is the model's reading, log 23). -/
def Obligations.IdleIsAFixedPoint : Prop :=
  ∀ s : State, s.status.state = .idle →
    (s.inputs = [] → step s = .next s) ∧
    (∀ rest, s.inputs = .block :: rest → step s = .next { s with inputs := rest, draws := s.draws + 1 }) ∧
    (∀ rest bytes, s.inputs = .linkReceive bytes :: rest → step s = .next
      { s with inputs := rest, draws := s.draws + 1, link := { s.link with rxq := s.link.rxq ++ bytes } }) ∧
    (∀ rest o, s.inputs = .linkOpen o :: rest → step s = .next
      { s with inputs := rest, draws := s.draws + 1, link := { s.link with isOpen := o } }) ∧
    (∀ rest n, s.inputs = .linkDrain n :: rest → step s = .next
      { s with inputs := rest, draws := s.draws + 1, link := { s.link with txq := s.link.txq.drop n } }) ∧
    (∀ rest r, s.inputs = .linkRefuse r :: rest → step s = .next
      { s with inputs := rest, draws := s.draws + 1, link := { s.link with refuses := r } }) ∧
    (∀ rest t, s.inputs = .setTime t :: rest → step s = .next
      { s with inputs := rest, draws := s.draws + 1, time := t })

/-- R48, R10, R45, R154: in every state a turn of the link or of TIME changes the link or TIME alone. Bytes received go
to the end of RXQ, where they stay for the polls; draining takes bytes from the front of TXQ; OPEN, the transport's
refusal (log 23) and TIME take any value. While the block polls and the reply is cut off, no bytes arrive, and closing
the stream there cuts the reply off (R168; the bit `cut` is the model's own, log 26). -/
def Obligations.LinkAndTimeTurns : Prop :=
  ∀ (s s' : State) (rest : List Input), s' = { s with inputs := rest, draws := s.draws + 1 } →
    (∀ bytes, s.inputs = .linkReceive bytes :: rest →
      (s.status.state ≠ .awaiting ∨ s.link.cut = false →
        step s = .next { s' with link := { s.link with rxq := s.link.rxq ++ bytes } }) ∧
      (s.status.state = .awaiting → s.link.cut = true → step s = .next s')) ∧
    (∀ n, s.inputs = .linkDrain n :: rest →
      step s = .next { s' with link := { s.link with txq := s.link.txq.drop n } }) ∧
    (∀ o, s.inputs = .linkOpen o :: rest →
      (s.status.state ≠ .awaiting ∨ o = true → step s = .next { s' with link := { s.link with isOpen := o } }) ∧
      (s.status.state = .awaiting → o = false →
        step s = .next { s' with link := { s.link with isOpen := false, cut := true } })) ∧
    (∀ r, s.inputs = .linkRefuse r :: rest → step s = .next { s' with link := { s.link with refuses := r } }) ∧
    (∀ v, s.inputs = .setTime v :: rest → step s = .next { s' with time := v })

/-! ### Reset (70_reset_and_hazards.md) -/

/-- R281: the values after reset; where the rule says "unspecified", no cell has been written. -/
def Obligations.ResetValues : Prop :=
  State.reset.cmd = 0 ∧ State.reset.arg = 0 ∧ State.reset.status.word = 0 ∧ State.reset.resultWritten = false ∧
  State.reset.fault.word = 0 ∧ State.reset.session.word = 0 ∧
  State.reset.cfg = { ifdMs := 50, pollRetries := 10, pollIntervalMs := 10, timeoutMs := 1000 } ∧
  State.reset.bufLen = 0 ∧ State.reset.txLen = 0 ∧ State.reset.rxCount = 0 ∧ State.reset.seq.word = 0 ∧
  State.reset.buf = [] ∧ State.reset.wbuf = [] ∧ State.reset.txbuf = [] ∧ State.reset.rxbuf = [] ∧
  (∀ e ∈ State.reset.vr.toList, e.valid = false) ∧
  State.reset.snap.online = false ∧ State.reset.snap.written = false ∧
  (∀ (s : State) (o : Bool), { s with link := { s.link with isOpen := o } }.hostValue .link = some (if o then 1 else 0))

/-- R280: reset gives every piece of block state its reset value, whatever command was running, and leaves the link
agent alone. (That TIME and the model's own fields are kept too is the model's choice, log 17.) -/
def Obligations.ResetAbortsAndClears : Prop :=
  ∀ (s : State) (rest : List Input), s.inputs = .reset :: rest →
    step s = .next
      { State.reset with
        link := s.link, time := s.time, rdata := s.rdata, draws := s.draws + 1, inputs := rest }

/-! ### CRC (40_crc.md) -/

/-- R102, CRC_CALC.
The first clause reads the encoding, whatever the ignored bits hold. -/
def Obligations.CrcCalcResult : Prop :=
  (∀ cmd arg : Reg, cmd.extractLsb' 0 8 = 0x01 →
    decode (.command cmd arg) = .ok (.crcCalc (arg.extractLsb' 0 16))) ∧
  (∀ (n : Word) (s : State),
    (n.toNat ≤ s.bufLen.toNat →
      exec (.crcCalc n) s = .next (s.afterSuccess ((crc16 (s.bufBytes n.toNat)).setWidth 32))) ∧
    (s.bufLen.toNat < n.toNat → exec (.crcCalc n) s = .next (s.afterError .lengthExceedsData)))

/-- R105, CRC_VERIFY: fewer than 3 bytes give 0, and so does a mismatch; neither is an error.
The first clause reads the encoding, whatever the ignored bits hold. -/
def Obligations.CrcVerifyResult : Prop :=
  (∀ cmd arg : Reg, cmd.extractLsb' 0 8 = 0x02 →
    decode (.command cmd arg) = .ok (.crcVerify (arg.extractLsb' 0 16))) ∧
  (∀ (n : Word) (s : State),
    (n.toNat ≤ s.bufLen.toNat → n.toNat < 3 → exec (.crcVerify n) s = .next (s.afterSuccess 0)) ∧
    (n.toNat ≤ s.bufLen.toNat → 3 ≤ n.toNat →
      exec (.crcVerify n) s = .next (s.afterSuccess
        (if (crc16 ((s.bufBytes n.toNat).take (n.toNat - 2))).toNat =
            ((s.bufBytes n.toNat).getD (n.toNat - 2) 0).toNat +
              256 * ((s.bufBytes n.toNat).getD (n.toNat - 1) 0).toNat
         then 1 else 0))) ∧
    (s.bufLen.toNat < n.toNat → exec (.crcVerify n) s = .next (s.afterError .lengthExceedsData)))

/-- R108, CRC_APPEND: the two CRC bytes go after the data, low byte first, and every other cell of BUF reads as before.
The first clause reads the encoding, whatever the ignored bits hold. -/
def Obligations.CrcAppendResult : Prop :=
  (∀ cmd arg : Reg, cmd.extractLsb' 0 8 = 0x03 →
    decode (.command cmd arg) = .ok (.crcAppend (arg.extractLsb' 0 16))) ∧
  (∀ (n : Word) (s : State),
    (n.toNat ≤ s.bufLen.toNat → n.toNat ≤ 262 →
      ∃ m : Memory, ∃ c : Word, c = crc16 (s.bufBytes n.toNat) ∧
        cellGet (w := 8) m n.toNat = some (c.setWidth 8) ∧
        cellGet (w := 8) m (n.toNat + 1) = some ((c >>> 8).setWidth 8) ∧
        (∀ a, a ≠ n.toNat → a ≠ n.toNat + 1 → cellGet (w := 8) m a = cellGet (w := 8) s.buf a) ∧
        exec (.crcAppend n) s = .next
          ({ s with buf := m, bufLen := n.setWidth 9 + 2 }.afterSuccess (c.setWidth 32))) ∧
    (n.toNat ≤ s.bufLen.toNat → 262 < n.toNat → exec (.crcAppend n) s = .next (s.afterError .capacity)) ∧
    (s.bufLen.toNat < n.toNat → exec (.crcAppend n) s = .next (s.afterError .lengthExceedsData)))

/-- R101, R103, R104: the empty sequence gives 0xFFFF; one more byte is XORed in and followed by 8 shifts, each with the
XOR of 0xA001 if bit 0 was 1; and the canonical vector gives 0xCDC5. -/
def Obligations.CrcOfCanonicalVector : Prop :=
  crc16 [] = 0xFFFF ∧
  (∀ (d : List Byte) (b : Byte), crc16 (d ++ [b]) =
    Nat.iterate (fun acc : Word => if acc.getLsbD 0 then (acc >>> 1) ^^^ 0xA001 else acc >>> 1) 8
      (crc16 d ^^^ b.setWidth 16)) ∧
  crc16 [0x01, 0x03, 0x00, 0x00, 0x00, 0x0A] = 0xCDC5

/-- R107, first half, for a sequence of at least one byte: a sequence closed by its CRC verifies. For the empty sequence
R106's length test makes `verify` give 0 (log 16). -/
def Obligations.CrcAppendedVerifies : Prop :=
  (∀ d : List Byte, d ≠ [] → verify (appendCrc d) = true) ∧ verify (appendCrc []) = false

/-- R107, second half: flipping any single bit of a sequence closed by its CRC makes `verify` give 0. -/
def Obligations.CrcDetectsSingleBitErrors : Prop :=
  ∀ (d : List Byte) (k : Nat) (b : Nat), k < d.length + 2 → b < 8 →
    verify ((appendCrc d).modify k (· ^^^ (1#8 <<< b))) = false

/-! ### Frames (41_rtu_frame.md) -/

/-- R121, FRAME_READ_REQ: the 8 bytes of R120 in BUF[0..8), every other cell of BUF as before; or RangeError 4.
The first clause reads the encoding, whatever the ignored bits hold. -/
def Obligations.FrameReadReqResult : Prop :=
  (∀ cmd arg : Reg, cmd.extractLsb' 0 8 = 0x10 →
    decode (.command cmd arg) =
      .ok (.frameReadReq (cmd.extractLsb' 8 8) (cmd.extractLsb' 16 16) (arg.extractLsb' 0 16))) ∧
  (∀ (u : Byte) (start c : Word) (s : State),
    (1 ≤ c.toNat → c.toNat ≤ 127 →
      ∃ m : Memory,
        (∀ i, (h : i < 8) → cellGet (w := 8) m i = (appendCrc [u, 0x03, (start >>> 8).setWidth 8, start.setWidth 8,
          (c >>> 8).setWidth 8, c.setWidth 8])[i]?) ∧
        (∀ a, 8 ≤ a → cellGet (w := 8) m a = cellGet (w := 8) s.buf a) ∧
        exec (.frameReadReq u start c) s = .next ({ s with buf := m, bufLen := 8 }.afterSuccess 8)) ∧
    (c.toNat = 0 ∨ 127 < c.toNat → exec (.frameReadReq u start c) s = .next (s.afterError .count)))

/-- R124, FRAME_WRITE_REQ: the 9 + 2n bytes of R123 in BUF[0..9+2n), every other cell as before; or RangeError 4.
The first clause reads the encoding, whatever the ignored bits hold. -/
def Obligations.FrameWriteReqResult : Prop :=
  (∀ cmd arg : Reg, cmd.extractLsb' 0 8 = 0x11 →
    decode (.command cmd arg) =
      .ok (.frameWriteReq (cmd.extractLsb' 8 8) (cmd.extractLsb' 16 16) (arg.extractLsb' 0 16))) ∧
  (∀ (u : Byte) (start n : Word) (s : State),
    (1 ≤ n.toNat → n.toNat ≤ 127 →
      ∃ m : Memory,
        (∀ i, (h : i < 9 + 2 * n.toNat) → cellGet (w := 8) m i =
          (appendCrc ([u, 0x10, (start >>> 8).setWidth 8, start.setWidth 8, (n >>> 8).setWidth 8, n.setWidth 8,
            BitVec.ofNat 8 (2 * n.toNat)] ++ wordBytes (s.wbufWords n.toNat)))[i]?) ∧
        (∀ a, 9 + 2 * n.toNat ≤ a → cellGet (w := 8) m a = cellGet (w := 8) s.buf a) ∧
        exec (.frameWriteReq u start n) s = .next
          ({ s with buf := m, bufLen := BitVec.ofNat 9 (9 + 2 * n.toNat) }.afterSuccess
            (BitVec.ofNat 32 (9 + 2 * n.toNat)))) ∧
    (n.toNat = 0 ∨ 127 < n.toNat → exec (.frameWriteReq u start n) s = .next (s.afterError .count)))

/-- R132, FRAME_READ_RSP. A valid reply puts its words in WBUF[0..c); on an error WBUF is unchanged and EXC_CODE is
what the validator gives.
The first clause reads the encoding, whatever the ignored bits hold. -/
def Obligations.FrameReadRspResult : Prop :=
  (∀ cmd arg : Reg, cmd.extractLsb' 0 8 = 0x12 →
    decode (.command cmd arg) = .ok (.frameReadRsp (cmd.extractLsb' 8 8) (arg.extractLsb' 0 16))) ∧
  (∀ (u : Byte) (c : Word) (s : State) (L : Nat), L = needRead (s.bufBytes s.bufLen.toNat) c.toNat →
    (c.toNat = 0 ∨ 127 < c.toNat → exec (.frameReadRsp u c) s = .next (s.afterError .count)) ∧
    (1 ≤ c.toNat → c.toNat ≤ 127 → s.bufLen.toNat < L →
      exec (.frameReadRsp u c) s = .next (s.afterError .lengthExceedsData)) ∧
    (1 ≤ c.toNat → c.toNat ≤ 127 → L ≤ s.bufLen.toNat →
      (∀ w, validateRead ((s.bufBytes s.bufLen.toNat).take L) u c.toNat = .ok w →
        ∃ m : Store 16,
          (∀ i, (h : i < c.toNat) → cellGet m i = w[i]?) ∧
          (∀ a, c.toNat ≤ a → cellGet m a = cellGet s.wbuf a) ∧
          exec (.frameReadRsp u c) s = .next ({ s with wbuf := m }.afterSuccess (c.setWidth 32))) ∧
      (∀ e x, validateRead ((s.bufBytes s.bufLen.toNat).take L) u c.toNat = .error (e, x) →
        exec (.frameReadRsp u c) s = .next
          ({ s with status := { s.status with excCode := x } }.afterError e))))

/-- R136, FRAME_WRITE_RSP.
The first clause reads the encoding, whatever the ignored bits hold. -/
def Obligations.FrameWriteRspResult : Prop :=
  (∀ cmd arg : Reg, cmd.extractLsb' 0 8 = 0x13 →
    decode (.command cmd arg) = .ok (.frameWriteRsp (cmd.extractLsb' 8 8))) ∧
  (∀ (u : Byte) (s : State) (L : Nat), L = needWrite (s.bufBytes s.bufLen.toNat) →
    (s.bufLen.toNat < L → exec (.frameWriteRsp u) s = .next (s.afterError .lengthExceedsData)) ∧
    (L ≤ s.bufLen.toNat →
      (∀ w, validateWrite ((s.bufBytes s.bufLen.toNat).take L) u = .ok w →
        exec (.frameWriteRsp u) s = .next (s.afterSuccess 1)) ∧
      (∀ e x, validateWrite ((s.bufBytes s.bufLen.toNat).take L) u = .error (e, x) →
        exec (.frameWriteRsp u) s = .next
          ({ s with status := { s.status with excCode := x } }.afterError e))))

/-- Valid replies are accepted. The reply of R90 to a read of 1 to 127 registers, from the right unit and closed by its
CRC, has the length R130 needs and validates to exactly its words (R131); the 8-byte ack has the length R134 needs and
validates whatever its bytes 2 to 5 (R135). -/
def Obligations.ValidRepliesAreAccepted : Prop :=
  (∀ (u : Byte) (ws : List Word), 1 ≤ ws.length → ws.length ≤ 127 →
    let rx := appendCrc ([u, 0x03, BitVec.ofNat 8 (2 * ws.length)] ++ wordBytes ws)
    rx.length = needRead rx ws.length ∧ validateRead rx u ws.length = .ok ws) ∧
  (∀ u b2 b3 b4 b5 : Byte,
    needWrite (appendCrc [u, 0x10, b2, b3, b4, b5]) = (appendCrc [u, 0x10, b2, b3, b4, b5]).length ∧
    validateWrite (appendCrc [u, 0x10, b2, b3, b4, b5]) u = .ok [])

/-- R130, R134, R137: the reply length needed, from any bytes: 5 when byte 1 has come and is the request's exception code
(0x83 of a read, 0x90 of a write), and the normal length else, with fewer than 2 bytes or any other byte 1. R131, R135:
an exception reply, 5 bytes, from the right unit and with a right CRC is reported with its exception code byte, whatever
the count. -/
def Obligations.ExceptionReplyCarriesItsCode : Prop :=
  (∀ (rx : List Byte) (c : Nat),
    (2 ≤ rx.length → rx.getD 1 0 = 0x83 → needRead rx c = 5) ∧
    (rx.length < 2 ∨ rx.getD 1 0 ≠ 0x83 → needRead rx c = 5 + 2 * c) ∧
    (2 ≤ rx.length → rx.getD 1 0 = 0x90 → needWrite rx = 5) ∧
    (rx.length < 2 ∨ rx.getD 1 0 ≠ 0x90 → needWrite rx = 8)) ∧
  (∀ (u code : Byte) (c : Nat),
    needRead (appendCrc [u, 0x83, code]) c = 5 ∧
    validateRead (appendCrc [u, 0x83, code]) u c = .error (.exception, code) ∧
    needWrite (appendCrc [u, 0x90, code]) = 5 ∧
    validateWrite (appendCrc [u, 0x90, code]) u = .error (.exception, code))

/-- R131, R133, R135, R254: which check decides. The first check that fails gives the error, and all of them hold of a
reply that is accepted. -/
def Obligations.ReplyChecksInOrder : Prop :=
  ∀ (rx : List Byte) (u : Byte) (c : Nat),
    (validateRead rx u c = .error (.crcMismatch, 0) ↔ verify rx = false) ∧
    (validateRead rx u c = .error (.address, 0) ↔ verify rx = true ∧ rx.getD 0 0 ≠ u) ∧
    (∀ x, validateRead rx u c = .error (.exception, x) ↔
      verify rx = true ∧ rx.getD 0 0 = u ∧ rx.getD 1 0 = 0x83 ∧ x = rx.getD 2 0) ∧
    (validateRead rx u c = .error (.functionCode, 0) ↔
      verify rx = true ∧ rx.getD 0 0 = u ∧ rx.getD 1 0 ≠ 0x83 ∧ rx.getD 1 0 ≠ 0x03) ∧
    (validateRead rx u c = .error (.byteCount, 0) ↔
      verify rx = true ∧ rx.getD 0 0 = u ∧ rx.getD 1 0 = 0x03 ∧ (rx.getD 2 0).toNat ≠ 2 * c) ∧
    (∀ w, validateRead rx u c = .ok w ↔
      verify rx = true ∧ rx.getD 0 0 = u ∧ rx.getD 1 0 = 0x03 ∧ (rx.getD 2 0).toNat = 2 * c ∧
      w.length = c ∧ ∀ i, (h : i < w.length) →
        w[i].toNat = 256 * (rx.getD (3 + 2 * i) 0).toNat + (rx.getD (4 + 2 * i) 0).toNat) ∧
    (validateWrite rx u = .error (.crcMismatch, 0) ↔ verify rx = false) ∧
    (validateWrite rx u = .error (.address, 0) ↔ verify rx = true ∧ rx.getD 0 0 ≠ u) ∧
    (∀ x, validateWrite rx u = .error (.exception, x) ↔
      verify rx = true ∧ rx.getD 0 0 = u ∧ rx.getD 1 0 = 0x90 ∧ x = rx.getD 2 0) ∧
    (validateWrite rx u = .error (.functionCode, 0) ↔
      verify rx = true ∧ rx.getD 0 0 = u ∧ rx.getD 1 0 ≠ 0x90 ∧ rx.getD 1 0 ≠ 0x10) ∧
    (∀ w, validateWrite rx u = .ok w ↔
      verify rx = true ∧ rx.getD 0 0 = u ∧ rx.getD 1 0 = 0x10 ∧ w = [])

/-! ### Transactions (42_rtu_transaction.md) -/

/-- R163, R166, R152: READ_HOLDING and WRITE_MULTIPLE with a count in range and the stream open start their transaction in
the step that accepts them: the request of R120, or that of R123 for the values WBUF[0..n) as they stand, in TXBUF,
BUSY = 1, SENDING. A count out of range is RangeError 4 with no I/O. -/
def Obligations.EngineCommandsStart : Prop :=
  (∀ (u : Byte) (start c : Word) (s : State) (d : TxnDesc),
      d = { fc := 0x03, unit := u, start := start, count := c, values := [] } →
      (1 ≤ c.toNat → c.toNat ≤ 127 → s.link.isOpen = true →
        d.frame = appendCrc [u, 0x03, (start >>> 8).setWidth 8, start.setWidth 8, (c >>> 8).setWidth 8, c.setWidth 8] ∧
        exec (.readHolding u start c) s = .next (s.afterStart [d] 0 d)) ∧
      (c.toNat = 0 ∨ 127 < c.toNat → exec (.readHolding u start c) s = .next (s.afterError .count))) ∧
  (∀ (u : Byte) (start n : Word) (s : State) (d : TxnDesc),
      d = { fc := 0x10, unit := u, start := start, count := n, values := s.wbufWords n.toNat } →
      (1 ≤ n.toNat → n.toNat ≤ 127 → s.link.isOpen = true →
        d.frame = appendCrc ([u, 0x10, (start >>> 8).setWidth 8, start.setWidth 8, (n >>> 8).setWidth 8, n.setWidth 8,
          BitVec.ofNat 8 (2 * n.toNat)] ++ wordBytes (s.wbufWords n.toNat)) ∧
        exec (.writeMultiple u start n) s = .next (s.afterStart [d] 0 d)) ∧
      (n.toNat = 0 ∨ 127 < n.toNat → exec (.writeMultiple u start n) s = .next (s.afterError .count)))

/-- R152, R285: a link command whose own checks pass, issued while the stream is not open, ends with ConnectionError 1:
no link I/O, BUSY not set, nothing of its results written; READ_SNAPSHOT's on_fail clears SNAP_ONLINE (R224). -/
def Obligations.ClosedStreamEndsTheCommand : Prop :=
  ∀ (i : Instr) (s : State) (td : List TxnDesc),
    descsOf s.session.unit i td → (usesSession i = true → s.session.valid = true) → s.link.isOpen = false →
    ∃ t, exec i s = .next t ∧
      t.status = { s.status with
        state := .idle, busy := false, retriesLeft := 0, ok := false, done := true
        err := some .notOpen, excCode := 0 } ∧
      t.link = s.link ∧ t.txbuf = s.txbuf ∧ t.txLen = s.txLen ∧ t.rxbuf = s.rxbuf ∧ t.rxCount = s.rxCount ∧
      t.result = s.result ∧ t.resultWritten = s.resultWritten ∧ t.buf = s.buf ∧ t.bufLen = s.bufLen ∧
      t.wbuf = s.wbuf ∧ t.vr = s.vr ∧ t.fault = s.fault ∧ t.session = s.session ∧ t.cfg = s.cfg ∧
      t.cmd = s.cmd ∧ t.arg = s.arg ∧ t.cur = s.cur ∧ t.inputs = s.inputs ∧
      t.snap = if i = .readSnapshot then { s.snap with online := false } else s.snap

/-- R153: the SENDING step empties both queues and hands the whole request to the transport, and polling begins with
CFG_POLL_RETRIES left; a refused send ends the command with ConnectionError 2 (for a command with no on_fail). -/
def Obligations.SendingStep : Prop :=
  ∀ s : State, Inv s → s.inputs = [] → s.status.state = .sending →
    (s.link.isOpen = true → s.link.refuses = false →
      step s = .next
        { s with
          link := { s.link with txq := s.txBytes, rxq := [], cut := false }
          tr := { s.tr with r := s.cfg.pollRetries }
          status := { s.status with state := .awaiting, retriesLeft := s.cfg.pollRetries } }) ∧
    (s.link.isOpen = false ∨ s.link.refuses = true → s.cur.opc ≠ 0x42 →
      step s = .next ({ s with link := { s.link with txq := [], rxq := [] } }.afterEndFail .sendFailed 0))

/-- R156: a poll takes the oldest bytes of RXQ, in order, and stops at the length the reply needs; then the reply is
complete, or the last poll ends the command with TimeoutError 1 (for a command with no on_fail), or one fewer poll is
left. Every other cell of RXBUF, and everything else, is as before. The length is need_read's for TR.c when TR.fc is
0x03 and need_write's when it is 0x10 (R130, R134), from the bytes collected. -/
def Obligations.PollStep : Prop :=
  ∀ s : State, Inv s → s.inputs = [] → s.status.state = .awaiting →
    (s.tr.fc = 0x03 → ∀ rx : List Byte,
      s.tr.need rx = if 2 ≤ rx.length ∧ rx.getD 1 0 = 0x83 then 5 else 5 + 2 * s.tr.count.toNat) ∧
    (s.tr.fc = 0x10 → ∀ rx : List Byte,
      s.tr.need rx = if 2 ≤ rx.length ∧ rx.getD 1 0 = 0x90 then 5 else 8) ∧
    ∃ (taken rest : List Byte) (m : Memory) (s' : State),
      s.link.rxq = taken ++ rest ∧
      (s.rxBytes ++ taken).length ≤ s.tr.need (s.rxBytes ++ taken) ∧
      ((s.rxBytes ++ taken).length < s.tr.need (s.rxBytes ++ taken) → rest = []) ∧
      (∀ i, (h : i < taken.length) → cellGet (w := 8) m (s.rxCount.toNat + i) = taken[i]?) ∧
      (∀ a, a < s.rxCount.toNat ∨ s.rxCount.toNat + taken.length ≤ a →
        cellGet (w := 8) m a = cellGet (w := 8) s.rxbuf a) ∧
      s' = { s with
        rxbuf := m
        rxCount := BitVec.ofNat 9 (s.rxCount.toNat + taken.length)
        link := { s.link with rxq := rest } } ∧
      ((s.rxBytes ++ taken).length = s.tr.need (s.rxBytes ++ taken) →
        step s = .next { s' with status := { s.status with state := .validating, retriesLeft := 0 } }) ∧
      ((s.rxBytes ++ taken).length < s.tr.need (s.rxBytes ++ taken) → s.tr.r = 0 → s.cur.opc ≠ 0x42 →
        step s = .next (s'.afterEndFail .replyIncomplete 0)) ∧
      ((s.rxBytes ++ taken).length < s.tr.need (s.rxBytes ++ taken) → s.tr.r ≠ 0 →
        step s = .next
          { s' with
            tr := { s.tr with r := s.tr.r - 1 }
            status := { s.status with retriesLeft := s.tr.r - 1 } })

/-- R159: the VALIDATING step. A failed check ends the command with its error (for a command with no on_fail); a valid
reply of a transaction that is not the last is staged, and the next transaction starts in the same step while the
stream is open. (Only READ_SNAPSHOT has a next one; its stream check is stated with its failures.) The checks are
validate_read's for TR.u and TR.c when TR.fc is 0x03 and validate_write's for TR.u when it is 0x10 (R131, R135). -/
def Obligations.ValidatingStep : Prop :=
  ∀ s : State, s.inputs = [] → s.status.state = .validating →
    (s.tr.fc = 0x03 → ∀ rx, s.tr.validate rx = validateRead rx s.tr.unit s.tr.count.toNat) ∧
    (s.tr.fc = 0x10 → ∀ rx, s.tr.validate rx = validateWrite rx s.tr.unit) ∧
    (∀ e x, s.tr.validate s.rxBytes = .error (e, x) → s.cur.opc ≠ 0x42 →
      step s = .next (s.afterEndFail e x)) ∧
    (∀ w d, s.tr.validate s.rxBytes = .ok w → s.td[s.seq.idx.toNat + 1]? = some d → s.link.isOpen = true →
      s.seq.total = BitVec.ofNat 8 s.td.length →
      step s = .next
        ({ s with stage := s.stage.take s.seq.idx.toNat ++ [w] }.afterStart s.td (s.seq.idx.toNat + 1) d))

/-- R163, R166: the commits of READ_HOLDING and WRITE_MULTIPLE, in the step that validates their reply. -/
def Obligations.EngineCommandsCommit : Prop :=
  ∀ (s : State) (w : List Word), s.lastReplyGives w → s.seq.idx = 0 →
    (s.cur.opc = 0x14 → w.length = (s.cur.arg.setWidth 16).toNat →
      ∃ m : Store 16,
        (∀ i, (h : i < w.length) → cellGet m i = some w[i]) ∧
        (∀ a, w.length ≤ a → cellGet m a = cellGet s.wbuf a) ∧
        step s = .next ({ s with
          stage := [w], wbuf := m
          result := s.cur.arg &&& 0xFFFF, resultWritten := true }.afterEndOk)) ∧
    (s.cur.opc = 0x15 →
      step s = .next ({ s with
        stage := [w]
        result := s.cur.arg &&& 0xFFFF, resultWritten := true }.afterEndOk))

/-- R150, R163: a READ_HOLDING from the host's CMD write to its results, with stale bytes in RXQ at the start. The block
sends the request of R120; the link then delivers the reply of R90 for the words `ws`; one poll and one validation
later WBUF[0..c) holds `ws`, RESULT is the count, the command is done with success, and the request alone has gone out.
This is one order of the agents' turns (log 4): the reply comes in one piece, before the first poll. -/
def Obligations.ReadHoldingEndToEnd : Prop :=
  ∀ (s : State) (u : Byte) (start : Word) (ws : List Word),
    1 ≤ ws.length → ws.length ≤ 127 → s.status.state = .idle → s.status.busy = false →
    s.arg = BitVec.ofNat 32 ws.length → s.link.isOpen = true → s.link.refuses = false →
    s.inputs =
      [.hostWrite 0 (cmdWord 0x14 u start), .block,
       .linkReceive (appendCrc ([u, 0x03, BitVec.ofNat 8 (2 * ws.length)] ++ wordBytes ws)), .block, .block] →
    ∃ t, Sys2Proof.core.run 5 s = .next t ∧
      (∀ i, (h : i < ws.length) → cellGet t.wbuf i = some ws[i]) ∧
      (∀ a, ws.length ≤ a → cellGet t.wbuf a = cellGet s.wbuf a) ∧
      t.result = BitVec.ofNat 32 ws.length ∧ t.resultWritten = true ∧
      t.status = { Status.reset with ok := true, done := true } ∧
      t.link = { isOpen := true, refuses := false, cut := false, rxq := []
                 txq := buildRead u start (BitVec.ofNat 16 ws.length) } ∧
      t.buf = s.buf ∧ t.bufLen = s.bufLen ∧ t.vr = s.vr ∧ t.snap = s.snap ∧ t.fault = s.fault ∧
      t.session = s.session ∧ t.cfg = s.cfg ∧ t.inputs = []

/-- R291: a running command ends, by block steps alone from any state in flight, within the steps it has left: at its start
one SENDING step, CFG_POLL_RETRIES + 1 polls and one VALIDATING step for each transaction. (The link takes no turn between
them; what its turns do to the bound is said next.) -/
def Obligations.CommandEndsWithinItsBound : Prop :=
  ∀ s : State, Inv s → s.inputs = [] → s.status.busy = true →
    (∃ n t, n ≤ s.stepsLeft ∧ Sys2Proof.core.run n s = .next t ∧
      t.status.state = .idle ∧ t.status.busy = false ∧ t.status.done = true) ∧
    (s.status.state = .sending → s.seq.idx = 0 →
      s.stepsLeft = s.td.length * (s.cfg.pollRetries.toNat + 3))

/-- R291, R290: whatever the link and the host do, every block step of a running command lowers the bound of the steps it
has left or ends the command, and no other turn but reset raises that bound or ends the command. -/
def Obligations.EachBlockStepLowersTheBound : Prop :=
  ∀ s t : State, Inv s → s.status.busy = true → step s = .next t →
    (s.inputs = [] ∨ s.inputs.head? = some .block →
      t.stepsLeft < s.stepsLeft ∧
        (t.status.busy = true ∨ (t.status.state = .idle ∧ t.status.busy = false ∧ t.status.done = true))) ∧
    (∀ i rest, s.inputs = i :: rest → i ≠ .block → i ≠ .reset →
      t.status.busy = true ∧ t.stepsLeft = s.stepsLeft)

/-- R168: what a stream that closes while the block polls does. Closing cuts the reply off and changes nothing else; while
the block goes on polling no turn brings bytes or lifts the cut, whether the stream opens again or not (log 26); and once
the bytes the reply needs are not in RXQ, every turn but reset leaves it so or ends the command with TimeoutError 1. -/
def Obligations.StreamClosedWhileAwaiting : Prop :=
  ∀ s t : State, Inv s → s.status.state = .awaiting → step s = .next t →
    (∀ rest, s.inputs = .linkOpen false :: rest →
      t = { s with inputs := rest, draws := s.draws + 1, link := { s.link with isOpen := false, cut := true } }) ∧
    (s.link.cut = true → t.status.state = .awaiting →
      t.link.cut = true ∧ ∃ taken, s.link.rxq = taken ++ t.link.rxq) ∧
    (s.starved → s.inputs.head? ≠ some .reset →
      t.starved ∨ (t.status.state = .idle ∧ t.status.busy = false ∧ t.status.done = true ∧ t.status.ok = false ∧
        t.status.err = some .replyIncomplete))

/-- R167: while a command runs, RESULT, WBUF, BUF, BUF_LEN, the VR bank and the SNAP bank keep their values: every turn
of the block, the host, the link and TIME that leaves BUSY = 1, the one that starts the command included, leaves them
alone. (Reset leaves BUSY = 0.) -/
def Obligations.ResultsKeptWhileRunning : Prop :=
  ∀ s t : State, step s = .next t → t.status.busy = true →
    t.result = s.result ∧ t.resultWritten = s.resultWritten ∧ t.wbuf = s.wbuf ∧ t.buf = s.buf ∧
    t.bufLen = s.bufLen ∧ t.vr = s.vr ∧ t.snap = s.snap

/-- R41: no later step of a command reads CMD, ARG or SESSION_UNIT: a block step with other values in them does the same. -/
def Obligations.LaterStepsReadOnlyLatchedOperands : Prop :=
  ∀ (s t : State) (cmd arg : Reg) (session : Session), s.inputs = [] → step s = .next t →
    step { s with cmd := cmd, arg := arg, session := session } =
      .next { t with cmd := cmd, arg := arg, session := session }

/-- R158, R162: a poll and a validation hand nothing to the transport: only the SENDING step sends, and it sends the
request in TXBUF once. -/
def Obligations.OnlySendingSends : Prop :=
  ∀ s t : State, Inv s → s.inputs = [] → step s = .next t →
    (s.status.state = .awaiting ∨ s.status.state = .validating → t.link.txq = s.link.txq) ∧
    (s.status.state = .sending → t.link.txq = s.txBytes ∨ (t.link.txq = [] ∧ t.status.err = some .sendFailed))

/-! ### Wire frames (30_encoding.md R89, R90) -/

/-- What each wire frame does, a request in SENDING and a reply in VALIDATING (that these steps are its meaning is the
model's reading, log 7). A request (0x03, 0x10) in SENDING goes to the transport (R153). In VALIDATING a frame that fails a
check of R131 or R135 ends the command with its error (for a command with no on_fail): so does an exception reply (0x83,
0x90) with a right CRC and unit, with DeviceExceptionError and its code. The valid reply of the last transaction ends the
command with success (R159): a 0x03 reply puts the words READ_HOLDING asked for in WBUF, a 0x10 ack ends WRITE_MULTIPLE
and the device-level writes. (The other commands' commits are stated of the step, which runs the frame.) -/
def Obligations.WireFramesComplete : Prop :=
  ∀ (s : State) (u code : Byte) (body : List Byte) (crc : Word),
    (s.status.state = .sending → s.link.isOpen = true → s.link.refuses = false →
      ∀ t : State, t =
        { s with
          tr := { s.tr with r := s.cfg.pollRetries }
          status := { s.status with state := .awaiting, retriesLeft := s.cfg.pollRetries } } →
      exec (.rtuReadHoldingRegisters u body crc) s = .next { t with
        link := { s.link with
          txq := u :: 0x03 :: body ++ [crc.setWidth 8, (crc >>> 8).setWidth 8], rxq := [], cut := false } } ∧
      exec (.rtuWriteMultipleRegisters u body crc) s = .next { t with
        link := { s.link with
          txq := u :: 0x10 :: body ++ [crc.setWidth 8, (crc >>> 8).setWidth 8], rxq := [], cut := false } }) ∧
    (s.status.state = .validating → s.cur.opc ≠ 0x42 →
      (∀ i bytes e x, encode i = .frame bytes → s.tr.validate bytes = .error (e, x) →
        exec i s = .next (s.afterEndFail e x)) ∧
      (s.tr.unit = u → s.tr.fc = 0x03 → crc = crc16 [u, 0x83, code] →
        exec (.rtuReadException u code crc) s = .next (s.afterEndFail .exception code)) ∧
      (s.tr.unit = u → s.tr.fc = 0x10 → crc = crc16 [u, 0x90, code] →
        exec (.rtuWriteException u code crc) s = .next (s.afterEndFail .exception code))) ∧
    (s.status.state = .validating → s.tr.unit = u → s.td.length = s.seq.idx.toNat + 1 → s.seq.idx = 0 →
      (∀ ws : List Word, s.tr.fc = 0x03 → s.cur.opc = 0x14 → 1 ≤ ws.length → ws.length ≤ 127 →
        ws.length = s.tr.count.toNat → ws.length = (s.cur.arg.setWidth 16).toNat →
        body = BitVec.ofNat 8 (2 * ws.length) :: wordBytes ws → crc = crc16 (u :: 0x03 :: body) →
        ∃ m : Store 16,
          (∀ i, (h : i < ws.length) → cellGet m i = some ws[i]) ∧
          (∀ a, ws.length ≤ a → cellGet m a = cellGet s.wbuf a) ∧
          exec (.rtuReadHoldingRegisters u body crc) s = .next ({ s with
            stage := [ws], wbuf := m
            result := s.cur.arg &&& 0xFFFF, resultWritten := true }.afterEndOk)) ∧
      (s.tr.fc = 0x10 → body.length = 4 → crc = crc16 (u :: 0x10 :: body) →
        (s.cur.opc = 0x15 →
          exec (.rtuWriteMultipleRegisters u body crc) s = .next ({ s with
            stage := [[]]
            result := s.cur.arg &&& 0xFFFF, resultWritten := true }.afterEndOk)) ∧
        (∀ (d : TxnDesc) (v : Word), s.cur.opc ∈ [0x43, 0x44, 0x45, 0x46, 0x47, 0x48] → s.td = [d] →
          d.values = [v] →
          exec (.rtuWriteMultipleRegisters u body crc) s = .next ({ s with
            stage := [[]], result := v.setWidth 32, resultWritten := true }.afterEndOk))))

/-! ### Codecs (43_codecs.md) -/

/-- R182, R183, R187: VOLT_DECODE (0x8000 itself in the 1 mV branch) and THR_DECODE.
The first two clauses read the encodings, whatever the ignored bits hold. -/
def Obligations.VoltageDecodersResult : Prop :=
  (∀ cmd arg : Reg, cmd.extractLsb' 0 8 = 0x20 →
    decode (.command cmd arg) = .ok (.voltDecode (cmd.extractLsb' 16 16))) ∧
  (∀ cmd arg : Reg, cmd.extractLsb' 0 8 = 0x22 →
    decode (.command cmd arg) = .ok (.thrDecode (cmd.extractLsb' 16 16))) ∧
  (∀ (raw : Word) (s : State),
    (0x8000 < raw.toNat → exec (.voltDecode raw) s =
      .next (s.afterSuccess (BitVec.ofNat 32 ((raw.toNat - 0x8000) * 10000)))) ∧
    (raw.toNat ≤ 0x8000 → exec (.voltDecode raw) s = .next (s.afterSuccess (BitVec.ofNat 32 (raw.toNat * 1000)))) ∧
    exec (.thrDecode raw) s = .next (s.afterSuccess (BitVec.ofNat 32 (raw.toNat * 10000))))

/-- R184, R188: VOLT_ENCODE and THR_ENCODE, with the bounds of their branches and errors; a half rounds up (R180).
The first two clauses read the encodings, whatever the ignored bits hold. -/
def Obligations.VoltageEncodersResult : Prop :=
  (∀ cmd arg : Reg, cmd.extractLsb' 0 8 = 0x21 →
    decode (.command cmd arg) = .ok (.voltEncode arg)) ∧
  (∀ cmd arg : Reg, cmd.extractLsb' 0 8 = 0x23 →
    decode (.command cmd arg) = .ok (.thrEncode arg)) ∧
  (∀ (x : Reg) (s : State),
    (x.toNat ≤ 32768000 →
      exec (.voltEncode x) s = .next (s.afterSuccess (BitVec.ofNat 32 ((x.toNat + 500) / 1000)))) ∧
    (32768000 < x.toNat → x.toNat < 327675000 →
      exec (.voltEncode x) s = .next (s.afterSuccess (BitVec.ofNat 32 ((x.toNat + 5000) / 10000 + 0x8000)))) ∧
    (327675000 ≤ x.toNat → exec (.voltEncode x) s = .next (s.afterError .value)) ∧
    (x.toNat < 655355000 →
      exec (.thrEncode x) s = .next (s.afterSuccess (BitVec.ofNat 32 ((x.toNat + 5000) / 10000)))) ∧
    (655355000 ≤ x.toNat → exec (.thrEncode x) s = .next (s.afterError .value)))

/-- R190, R191, R192: BAUD_DECODE falls back to 57600, BAUD_ENCODE fails.
The first two clauses read the encodings, whatever the ignored bits hold. -/
def Obligations.BaudCodecResult : Prop :=
  (∀ cmd arg : Reg, cmd.extractLsb' 0 8 = 0x24 →
    decode (.command cmd arg) = .ok (.baudDecode (cmd.extractLsb' 16 16))) ∧
  (∀ cmd arg : Reg, cmd.extractLsb' 0 8 = 0x25 →
    decode (.command cmd arg) = .ok (.baudEncode arg)) ∧
  (∀ (code : Word) (rate : Reg) (s : State),
    (code = 0 → exec (.baudDecode code) s = .next (s.afterSuccess 9600)) ∧
    (code = 1 → exec (.baudDecode code) s = .next (s.afterSuccess 19200)) ∧
    (code = 2 → exec (.baudDecode code) s = .next (s.afterSuccess 38400)) ∧
    (3 ≤ code.toNat → exec (.baudDecode code) s = .next (s.afterSuccess 57600)) ∧
    (rate = 9600 → exec (.baudEncode rate) s = .next (s.afterSuccess 0)) ∧
    (rate = 19200 → exec (.baudEncode rate) s = .next (s.afterSuccess 1)) ∧
    (rate = 38400 → exec (.baudEncode rate) s = .next (s.afterSuccess 2)) ∧
    (rate = 57600 → exec (.baudEncode rate) s = .next (s.afterSuccess 3)) ∧
    (rate ∉ [9600, 19200, 38400, 57600] → exec (.baudEncode rate) s = .next (s.afterError .baudUnsupported)))

/-- R193, R194: MASK_DECODE. Channels 17 to 32 are the bits of the high word, 1 to 16 those of the low word.
The first clause reads the encoding, whatever the ignored bits hold. -/
def Obligations.MaskDecodeResult : Prop :=
  (∀ cmd arg : Reg, cmd.extractLsb' 0 8 = 0x26 →
    decode (.command cmd arg) = .ok (.maskDecode (cmd.extractLsb' 16 16) (arg.extractLsb' 0 16))) ∧
  (∀ (hw lw : Word) (s : State), ∃ mask : Reg,
    exec (.maskDecode hw lw) s = .next (s.afterSuccess mask) ∧
    mask.toNat = hw.toNat * 65536 + lw.toNat ∧
    (∀ ch, 1 ≤ ch → ch ≤ 16 → dropped mask ch = lw.getLsbD (ch - 1)) ∧
    (∀ ch, 17 ≤ ch → ch ≤ 32 → dropped mask ch = hw.getLsbD (ch - 17)))

/-- R195, R196: TEXT_DECODE. `j` is twice the index of the first word that is 0x0000, or twice the word count; BUF[0..j)
holds the words' bytes, high byte first, and every other cell of BUF is as before.
The first clause reads the encoding, whatever the ignored bits hold. -/
def Obligations.TextDecodeResult : Prop :=
  (∀ cmd arg : Reg, cmd.extractLsb' 0 8 = 0x27 →
    decode (.command cmd arg) = .ok (.textDecode (cmd.extractLsb' 8 8))) ∧
  (∀ (n : Byte) (s : State),
    (n.toNat ≤ 128 →
      ∃ (k : Nat) (m : Memory),
        k ≤ n.toNat ∧ (∀ i, i < k → (s.wbufWords n.toNat)[i]? ≠ some 0) ∧
        (k < n.toNat → (s.wbufWords n.toNat)[k]? = some 0) ∧
        (∀ i, i < k → cellGet (w := 8) m (2 * i) = some (((s.wbufWords n.toNat).getD i 0 >>> 8).setWidth 8) ∧
          cellGet (w := 8) m (2 * i + 1) = some (((s.wbufWords n.toNat).getD i 0).setWidth 8)) ∧
        (∀ a, 2 * k ≤ a → cellGet (w := 8) m a = cellGet (w := 8) s.buf a) ∧
        exec (.textDecode n) s = .next ({ s with
          buf := m
          bufLen := BitVec.ofNat 9 (2 * k)
          status := { s.status with
            allFf := decide (n ≠ 0 ∧ ∀ v ∈ s.wbufWords n.toNat, v = 0xFFFF) } }.afterSuccess
              (BitVec.ofNat 32 (2 * k)))) ∧
    (128 < n.toNat → exec (.textDecode n) s = .next (s.afterError .count)))

/-- R186: the round-trip law of the voltage codec and the bound of its error. -/
def Obligations.VoltageRoundTripLaw : Prop :=
  (∀ raw : Word, raw.toNat ≤ 0x8000 ∨ 0x8CCD ≤ raw.toNat → voltEncode (voltDecode raw) = .ok raw) ∧
  (∀ raw : Word, 0x8001 ≤ raw.toNat → raw.toNat ≤ 0x8CCC →
    ∃ r, voltEncode (voltDecode raw) = .ok r ∧ r.toNat = (raw.toNat - 0x8000) * 10) ∧
  (∀ (x : Reg) (r : Word), voltEncode x = .ok r →
    (x.toNat ≤ 32768000 → (voltDecode r).toNat ≤ x.toNat + 500 ∧ x.toNat ≤ (voltDecode r).toNat + 500) ∧
    (32768000 < x.toNat → (voltDecode r).toNat ≤ x.toNat + 5000 ∧ x.toNat ≤ (voltDecode r).toNat + 5000))

/-! ### Register map and device-level commands (44_device_ops.md) -/

/-- R210, R212: REG_LOOKUP gives the map's address and length, or RangeError 6 above id 16.
The first clause reads the encoding, whatever the ignored bits hold. -/
def Obligations.RegLookupResult : Prop :=
  (∀ cmd arg : Reg, cmd.extractLsb' 0 8 = 0x30 →
    decode (.command cmd arg) = .ok (.regLookup (cmd.extractLsb' 8 8))) ∧
  (∀ (id : Byte) (s : State),
    (∀ addr len : Nat,
      [(0x8000, 1), (0x8001, 1), (0x8002, 1), (0x8003, 1), (0x8004, 1), (0x8005, 2), (0x8007, 1), (0x8008, 1),
       (0x8009, 1), (0x800A, 1), (0x8010, 32), (0x8030, 32), (0x8050, 32), (0x80C0, 32), (0x80E0, 32),
       (0x8800, 32), (0x8820, 31)][id.toNat]? = some (addr, len) →
      exec (.regLookup id) s = .next (s.afterSuccess (BitVec.ofNat 32 (len * 65536 + addr)))) ∧
    (id.toNat ≤ 16 → ∃ v, exec (.regLookup id) s = .next (s.afterSuccess v)) ∧
    (16 < id.toNat → exec (.regLookup id) s = .next (s.afterError .registerId)))

/-- R217, R221 to R224: with a session unit and the stream open, the device-level reads latch U and start their first
transaction; the requests go to U, and READ_SNAPSHOT's 12 are those of R223 in its order. R226 to R232: so do the writes
with the argument in its domain, each with one 0x10 transaction of one register: its target address and its raw word. -/
def Obligations.DeviceCommandsStart : Prop :=
  (∀ (s : State) (u : Byte), s.session.valid = true → u = s.session.unit → s.link.isOpen = true →
    (∀ d, d = { fc := 0x03, unit := u, start := 0x8010, count := 32, values := [] } →
      exec .readAllVoltages s = .next ({ s with unit := u }.afterStart [d] 0 d)) ∧
    (∀ ch : Byte, 1 ≤ ch.toNat → ch.toNat ≤ 32 →
      ∀ d, d = { fc := 0x03, unit := u, start := BitVec.ofNat 16 (0x8010 + ch.toNat - 1), count := 1, values := [] } →
      exec (.readSingleVoltage ch) s = .next ({ s with unit := u }.afterStart [d] 0 d)) ∧
    (∀ td d, td = [(0x8000, 1), (0x8001, 1), (0x8002, 1), (0x8003, 1), (0x8004, 1), (0x8005, 2), (0x8007, 1),
          (0x8008, 1), (0x8009, 1), (0x800A, 1), (0x8800, 32), (0x8820, 31)].map
        (fun p : Nat × Nat => ({ fc := 0x03, unit := u, start := BitVec.ofNat 16 p.1, count := BitVec.ofNat 16 p.2
                                 values := [] } : TxnDesc)) →
      td[0]? = some d → exec .readSnapshot s = .next ({ s with unit := u }.afterStart td 0 d))) ∧
  (∀ (s : State) (u : Byte) (started : Nat → Word → State), s.session.valid = true → u = s.session.unit →
    s.link.isOpen = true →
    (∀ addr v d, d = { fc := 0x10, unit := u, start := BitVec.ofNat 16 addr, count := 1, values := [v] } →
      started addr v = { s with unit := u }.afterStart [d] 0 d) →
    (∀ a : Word, 1 ≤ a.toNat → a.toNat ≤ 128 → exec (.writeDeviceAddress a) s = .next (started 0x8000 a)) ∧
    exec (.writeBaudRate 9600) s = .next (started 0x8002 0) ∧
    exec (.writeBaudRate 19200) s = .next (started 0x8002 1) ∧
    exec (.writeBaudRate 38400) s = .next (started 0x8002 2) ∧
    exec (.writeBaudRate 57600) s = .next (started 0x8002 3) ∧
    (∀ v, exec (.writeIoDirection v) s = .next (started 0x8003 v)) ∧
    (∀ v, exec (.writeIoValue v) s = .next (started 0x8004 v)) ∧
    (∀ v, exec (.writeSetTemperature v) s = .next (started 0x8007 v)) ∧
    (∀ (ch : Byte) (x : Reg), 1 ≤ ch.toNat → ch.toNat ≤ 32 → x.toNat < 655355000 →
      exec (.writeDropThreshold ch x) s =
        .next (started (0x8050 + ch.toNat - 1) (BitVec.ofNat 16 ((x.toNat + 5000) / 10000)))))

/-- R222, R227, R228, R232, R253: an argument outside its domain is its RangeError before any I/O, before the session
check, and with the channel before the value. R217, R285: with every argument in its domain but no session unit a
device-level command is IllegalCommand 2, with no link I/O and nothing else written. -/
def Obligations.DeviceCommandsRefused : Prop :=
  (∀ s : State,
      (∀ ch : Byte, ch.toNat = 0 ∨ 32 < ch.toNat →
        exec (.readSingleVoltage ch) s = .next (s.afterError .channel) ∧
        ∀ x, exec (.writeDropThreshold ch x) s = .next (s.afterError .channel)) ∧
      (∀ a : Word, a.toNat = 0 ∨ 128 < a.toNat →
        exec (.writeDeviceAddress a) s = .next (s.afterError .deviceAddress)) ∧
      (∀ rate : Reg, rate ∉ [9600, 19200, 38400, 57600] →
        exec (.writeBaudRate rate) s = .next (s.afterError .baud)) ∧
      (∀ (ch : Byte) (x : Reg), 1 ≤ ch.toNat → ch.toNat ≤ 32 → 655355000 ≤ x.toNat →
        exec (.writeDropThreshold ch x) s = .next (s.afterError .value))) ∧
  (∀ (i : Instr) (s : State) (td : List TxnDesc), usesSession i = true → descsOf s.session.unit i td →
      s.session.valid = false → exec i s = .next (s.afterError .sessionUnitUnset))

/-- R221: the commit of READ_ALL_VOLTAGES: all 32 entries at once, from unit U, with one TIME sample. R222: the commit of
READ_SINGLE_VOLTAGE: the channel's entry and WBUF[0] alone, and the voltage in RESULT. -/
def Obligations.VoltageReadsCommit : Prop :=
  (∀ (s : State) (w : List Word), s.lastReplyGives w → s.seq.idx = 0 → s.cur.opc = 0x40 → w.length = 32 →
      ∃ (m : Store 16) (vr : Vector VrEntry 32),
        (∀ i, (h : i < 32) → cellGet m i = w[i]?) ∧ (∀ a, 32 ≤ a → cellGet m a = cellGet s.wbuf a) ∧
        (∀ i, (h : i < 32) → vr[i] =
          { valid := true, raw := w.getD i 0, uv := voltDecode (w.getD i 0), unit := s.unit
            tsLo := s.time.setWidth 32, tsHi := (s.time >>> 32).setWidth 32 }) ∧
        step s = .next ({ s with
          stage := [w], wbuf := m, vr := vr, result := 32, resultWritten := true }.afterEndOk)) ∧
  (∀ (s : State) (x : Word), s.lastReplyGives [x] → s.seq.idx = 0 → s.cur.opc = 0x41 →
      1 ≤ s.cur.a.toNat → s.cur.a.toNat ≤ 32 →
      ∃ (m : Store 16) (vr : Vector VrEntry 32),
        cellGet m 0 = some x ∧ (∀ a, a ≠ 0 → cellGet m a = cellGet s.wbuf a) ∧
        (∀ i, (h : i < 32) → i + 1 = s.cur.a.toNat → vr[i] =
          { valid := true, raw := x, uv := voltDecode x, unit := s.unit
            tsLo := s.time.setWidth 32, tsHi := (s.time >>> 32).setWidth 32 }) ∧
        (∀ i, (h : i < 32) → i + 1 ≠ s.cur.a.toNat → vr[i] = s.vr[i]) ∧
        step s = .next ({ s with
          stage := [[x]], wbuf := m, vr := vr, result := voltDecode x, resultWritten := true }.afterEndOk))

/-- R224, R225: the commit of READ_SNAPSHOT, from the 11 staged replies and the twelfth: every SNAP field in one step,
and RESULT = 1. -/
def Obligations.ReadSnapshotCommits : Prop :=
  ∀ (s : State) (a ver bc dir val hi lo st ct fan ac : Word) (name serial : List Word),
    s.lastReplyGives serial → s.seq.idx = 11 → s.cur.opc = 0x42 →
    s.stage = [[a], [ver], [bc], [dir], [val], [hi, lo], [st], [ct], [fan], [ac], name] →
    name.length = 32 → serial.length = 31 →
    ∃ b : Snapshot,
      b.written = true ∧ b.online = true ∧ b.addr = a ∧ b.versionRaw = ver ∧ b.baudCode = bc ∧
      b.baud = baudDecode bc ∧ b.ioDir = dir ∧ b.ioVal = val ∧
      b.dropMask.toNat = hi.toNat * 65536 + lo.toNat ∧ b.setTemp = st ∧ b.curTemp = ct ∧ b.fanMa = fan ∧
      b.acRaw = ac ∧ (b.acOn = true ↔ ac = 1) ∧
      b.nameLen.toNat = textLen name ∧ (b.nameAllFf = true ↔ ∀ v ∈ name, v = 0xFFFF) ∧
      b.serialLen.toNat = textLen serial ∧ (b.serialAllFf = true ↔ ∀ v ∈ serial, v = 0xFFFF) ∧
      b.tsLo = s.time.setWidth 32 ∧ b.tsHi = (s.time >>> 32).setWidth 32 ∧
      b.nameW.toList = name ∧ b.serialW.toList = serial ∧
      step s = .next ({ s with
        stage := s.stage ++ [serial], snap := b, result := 1, resultWritten := true }.afterEndOk)

/-- R226, R233: the commit of the six writes: RESULT is the raw word written, and neither bank, nor SESSION_UNIT, nor
anything else but STATUS changes. -/
def Obligations.DeviceWritesCommit : Prop :=
  ∀ (s : State) (u : Byte) (addr v : Word), s.lastReplyGives [] → s.seq.idx = 0 →
    s.cur.opc ∈ [0x43, 0x44, 0x45, 0x46, 0x47, 0x48] →
    s.td = [{ fc := 0x10, unit := u, start := addr, count := 1, values := [v] }] →
    step s = .next ({ s with
      stage := [[]], result := v.setWidth 32, resultWritten := true }.afterEndOk)

/-- R224, R235: a READ_SNAPSHOT that fails clears SNAP_ONLINE and writes no other SNAP field, and the error is the failed
read's: in VALIDATING by a failed check, or because the stream is not open when the next of its reads is to start (R152;
SEQ_IDX is then that read's, R220, log 22); in SENDING because the send is refused; in AWAITING by the last poll. (The
stream check of its first read is in the step that accepts the command.) -/
def Obligations.FailedSnapshotGoesOffline : Prop :=
  ∀ (s off : State), s.cur.opc = 0x42 → s.inputs = [] →
    off = { s with snap := { s.snap with online := false } } →
    (∀ e x, s.status.state = .validating → s.tr.validate s.rxBytes = .error (e, x) →
      step s = .next (off.afterEndFail e x)) ∧
    (∀ w d, s.status.state = .validating → s.tr.validate s.rxBytes = .ok w →
      s.td[s.seq.idx.toNat + 1]? = some d → s.link.isOpen = false →
      step s = .next ({ off with
        seq := { s.seq with idx := BitVec.ofNat 8 (s.seq.idx.toNat + 1) } }.afterEndFail .notOpen 0)) ∧
    (Inv s → s.status.state = .sending → s.link.isOpen = false ∨ s.link.refuses = true →
      step s = .next ({ off with link := { s.link with txq := [], rxq := [] } }.afterEndFail .sendFailed 0)) ∧
    (∀ t, s.status.state = .awaiting → step s = .next t → t.status.done = true → s.status.done = false →
      t.snap = { s.snap with online := false } ∧ t.status.err = some .replyIncomplete)

/-! ### Host accesses and FAULT (10_state.md, 60_exceptions.md) -/

/-- R24, R27, R63, R261, R262: the host writes that are refused, each with the FAULT bit it sets and no other effect. A
CMD write while BUSY; a write of a RW register or buffer while BUSY; a write of a read-only register, a read-only
bank or an unmapped index; a write of BUF_LEN above 264, which while BUSY sets two bits. (The model's readings: that the
third sets BAD_ACCESS alone while BUSY too, log 18; that BUF_LEN's bound is on the whole 32-bit value, log 12; that both
bits are set by such a write while BUSY, log 13.) -/
def Obligations.RefusedHostWrites : Prop :=
  ∀ (s : State) (i : BitVec 12) (v : Reg) (rest : List Input) (s' : State),
    s.inputs = .hostWrite i v :: rest → s' = { s with inputs := rest, draws := s.draws + 1 } →
    (i = 0 → s.status.busy = true →
      step s = .next { s' with fault := { s.fault with cmdOverrun := true } }) ∧
    ((i = 1 ∨ (5 ≤ i.toNat ∧ i.toNat ≤ 9) ∨ (i = 11 ∧ v.toNat ≤ 264) ∨
        (0x100 ≤ i.toNat ∧ i.toNat ≤ 0x207) ∨ (0x280 ≤ i.toNat ∧ i.toNat ≤ 0x2FF)) →
      s.status.busy = true → step s = .next { s' with fault := { s.fault with busyWrite := true } }) ∧
    (((2 ≤ i.toNat ∧ i.toNat ≤ 4) ∨ i = 10 ∨ (12 ≤ i.toNat ∧ i.toNat ≤ 0xFF) ∨
        (0x208 ≤ i.toNat ∧ i.toNat ≤ 0x27F) ∨ 0x300 ≤ i.toNat) →
      step s = .next { s' with fault := { s.fault with badAccess := true } }) ∧
    (i = 11 → 264 < v.toNat → s.status.busy = false →
      step s = .next { s' with fault := { s.fault with badAccess := true } }) ∧
    (i = 11 → 264 < v.toNat → s.status.busy = true →
      step s = .next { s' with fault := { s.fault with badAccess := true, busyWrite := true } })

/-- R21, R25, R28 to R31, R33, R37, R39: the effect of a host write while BUSY = 0; bits a register does not define are
dropped, and nothing else changes. -/
def Obligations.HostWriteEffects : Prop :=
  ∀ (s : State) (i : BitVec 12) (v : Reg) (rest : List Input) (s' : State),
    s.inputs = .hostWrite i v :: rest → s' = { s with inputs := rest, draws := s.draws + 1 } →
    s.status.busy = false →
    (i = 1 → step s = .next { s' with arg := v }) ∧
    (i = 5 → step s = .next { s' with session := { unit := v.setWidth 8, valid := true } }) ∧
    (i = 6 → step s = .next { s' with cfg := { s.cfg with ifdMs := v.setWidth 16 } }) ∧
    (i = 7 → step s = .next { s' with cfg := { s.cfg with pollRetries := v.setWidth 8 } }) ∧
    (i = 8 → step s = .next { s' with cfg := { s.cfg with pollIntervalMs := v.setWidth 16 } }) ∧
    (i = 9 → step s = .next { s' with cfg := { s.cfg with timeoutMs := v.setWidth 16 } }) ∧
    (i = 11 → v.toNat ≤ 264 → step s = .next { s' with bufLen := v.setWidth 9 }) ∧
    (0x100 ≤ i.toNat → i.toNat ≤ 0x207 → ∃ m : Memory,
      cellGet (w := 8) m (i.toNat - 0x100) = some (v.setWidth 8) ∧
      (∀ a, a ≠ i.toNat - 0x100 → cellGet (w := 8) m a = cellGet (w := 8) s.buf a) ∧
      step s = .next { s' with buf := m }) ∧
    (0x280 ≤ i.toNat → i.toNat ≤ 0x2FF → ∃ m : Store 16,
      cellGet m (i.toNat - 0x280) = some (v.setWidth 16) ∧
      (∀ a, a ≠ i.toNat - 0x280 → cellGet m a = cellGet s.wbuf a) ∧
      step s = .next { s' with wbuf := m })

/-- R23, R63, R70: a host read changes nothing but FAULT.BAD_ACCESS, and that exactly for the indices R23 and R44 leave
unmapped. (`rdata` and `draws` are the model's own fields, log 15 and log 3.) -/
def Obligations.HostReadEffects : Prop :=
  ∀ (s : State) (i : BitVec 12) (rest : List Input) (unmapped : Bool), s.inputs = .hostRead i :: rest →
    (unmapped = true ↔
      (0x00F ≤ i.toNat ∧ i.toNat ≤ 0x0FF) ∨ (0x208 ≤ i.toNat ∧ i.toNat ≤ 0x27F) ∨
      (0x407 ≤ i.toNat ∧ i.toNat ≤ 0x4FF) ∨ (0x603 ≤ i.toNat ∧ i.toNat ≤ 0x6FF) ∨
      (0x811 ≤ i.toNat ∧ i.toNat ≤ 0x81F) ∨ 0x85F ≤ i.toNat) →
    ∃ v, step s = .next
      { s with
        inputs := rest, draws := s.draws + 1, rdata := v
        fault := { s.fault with badAccess := s.fault.badAccess || unmapped } }

/-- R21, R23 to R35, R37, R39, R40, R43, R44: what a host read returns, the fields of each register where its rule puts
them and 0 elsewhere: the registers, a written cell of each buffer, every register of the VR bank and of the SNAP bank.
(A cell that nothing has written reads as a free value, and nothing is stated of it.) -/
def Obligations.HostReadValues : Prop :=
  ∀ (s t : State) (i : BitVec 12) (rest : List Input), s.inputs = .hostRead i :: rest → step s = .next t →
    (∀ p ∈ [(0x000, s.cmd.toNat), (0x001, s.arg.toNat),
        (0x002, s.status.state.code.toNat + 16 * s.status.busy.toNat + 32 * s.status.done.toNat +
          64 * s.status.ok.toNat + 128 * s.status.allFf.toNat + 256 * s.status.errKind.toNat +
          4096 * s.status.errReason.toNat + 65536 * s.status.excCode.toNat + 16777216 * s.status.retriesLeft.toNat),
        (0x004, s.fault.cmdOverrun.toNat + 2 * s.fault.busyWrite.toNat + 4 * s.fault.badAccess.toNat),
        (0x005, s.session.unit.toNat + 2147483648 * s.session.valid.toNat),
        (0x006, s.cfg.ifdMs.toNat), (0x007, s.cfg.pollRetries.toNat), (0x008, s.cfg.pollIntervalMs.toNat),
        (0x009, s.cfg.timeoutMs.toNat), (0x00A, s.link.isOpen.toNat), (0x00B, s.bufLen.toNat),
        (0x00C, s.txLen.toNat), (0x00D, s.rxCount.toNat), (0x00E, s.seq.idx.toNat + 256 * s.seq.total.toNat)],
      i.toNat = p.1 → t.rdata.toNat = p.2) ∧
    (i = 3 → s.resultWritten = true → t.rdata = s.result) ∧
    (∀ k (v : Byte), i.toNat = 0x100 + k → k < 264 → cellGet (w := 8) s.buf k = some v → t.rdata.toNat = v.toNat) ∧
    (∀ k (v : Word), i.toNat = 0x280 + k → k < 128 → cellGet s.wbuf k = some v → t.rdata.toNat = v.toNat) ∧
    (∀ k (v : Byte), i.toNat = 0x300 + k → k < 263 → cellGet (w := 8) s.txbuf k = some v → t.rdata.toNat = v.toNat) ∧
    (∀ k (v : Byte), i.toNat = 0x500 + k → k < 259 → cellGet (w := 8) s.rxbuf k = some v → t.rdata.toNat = v.toNat) ∧
    (∀ c, (h : c < 32) → ∀ e : VrEntry, e = s.vr[c] →
      (i.toNat = 0x700 + 8 * c → t.rdata.toNat = e.valid.toNat) ∧
      (i.toNat = 0x706 + 8 * c ∨ i.toNat = 0x707 + 8 * c → t.rdata = 0) ∧
      (e.valid = true → ∀ p ∈ [(1, e.raw.toNat), (2, e.uv.toNat), (3, e.unit.toNat), (4, e.tsLo.toNat),
          (5, e.tsHi.toNat)], i.toNat = 0x700 + 8 * c + p.1 → t.rdata.toNat = p.2)) ∧
    (∀ b : Snapshot, b = s.snap →
      (i = 0x800 → t.rdata.toNat = b.online.toNat) ∧
      (b.written = true →
        (∀ p ∈ [(0x801, b.addr.toNat), (0x802, b.versionRaw.toNat), (0x803, b.baudCode.toNat), (0x804, b.baud.toNat),
            (0x805, b.ioDir.toNat), (0x806, b.ioVal.toNat), (0x807, b.dropMask.toNat), (0x808, b.setTemp.toNat),
            (0x809, b.curTemp.toNat), (0x80A, b.fanMa.toNat), (0x80B, b.acRaw.toNat), (0x80C, b.acOn.toNat),
            (0x80D, b.nameLen.toNat + 256 * b.nameAllFf.toNat),
            (0x80E, b.serialLen.toNat + 256 * b.serialAllFf.toNat), (0x80F, b.tsLo.toNat), (0x810, b.tsHi.toNat)],
          i.toNat = p.1 → t.rdata.toNat = p.2) ∧
        (∀ k, (h : k < 32) → i.toNat = 0x820 + k → t.rdata.toNat = b.nameW[k].toNat) ∧
        (∀ k, (h : k < 31) → i.toNat = 0x840 + k → t.rdata.toNat = b.serialW[k].toNat)))

/-- R26, R133, R250, R251: the codes STATUS shows. Each error has its own (ERR_KIND, ERR_REASON) pair, no error shows 0 and
0, and each state has its code. -/
def Obligations.StatusCodes : Prop :=
  ∀ st : Status,
    (∀ p ∈ [(CmdError.notOpen, 1, 1), (.sendFailed, 1, 2), (.crcMismatch, 2, 1), (.address, 3, 1),
        (.functionCode, 3, 2), (.byteCount, 3, 3), (.exception, 4, 1), (.replyIncomplete, 5, 1), (.channel, 6, 1),
        (.deviceAddress, 6, 2), (.baud, 6, 3), (.count, 6, 4), (.value, 6, 5), (.registerId, 6, 6),
        (.baudUnsupported, 7, 1), (.lengthExceedsData, 8, 1), (.capacity, 8, 2), (.unassignedOpcode, 9, 1),
        (.sessionUnitUnset, 9, 2)],
      st.err = some p.1 → st.errKind.toNat = p.2.1 ∧ st.errReason.toNat = p.2.2) ∧
    (st.err = none → st.errKind = 0 ∧ st.errReason = 0) ∧
    (∀ e e' : CmdError, e.kind = e'.kind → e.reason = e'.reason → e = e') ∧
    (st.state = .idle → st.state.code = 0) ∧ (st.state = .sending → st.state.code = 1) ∧
    (st.state = .awaiting → st.state.code = 2) ∧ (st.state = .validating → st.state.code = 3)

/-- R27: FAULT is sticky: but for reset, no step clears one of its bits. -/
def Obligations.FaultBitsAreSticky : Prop :=
  ∀ s t : State, s.inputs.head? ≠ some .reset → step s = .next t →
    (s.fault.cmdOverrun = true → t.fault.cmdOverrun = true) ∧
    (s.fault.busyWrite = true → t.fault.busyWrite = true) ∧
    (s.fault.badAccess = true → t.fault.badAccess = true)

/-! ### The invariant -/

/-- Every step, of the block, the host, the link or the environment, from every state with the invariant, keeps it. -/
def Obligations.EveryStepKeepsTheInvariant : Prop :=
  ∀ s t : State, Inv s → step s = .next t → Inv t

/-- The state after reset has the invariant. -/
def Obligations.ResetHasTheInvariant : Prop := Inv State.reset
end

