-- ==== Sys2Proof/Laws/Encoding.lean ====
section
/-! SUPPORT. The bit fields of the command word and the bytes of a word and of a frame: what is put in is what is read. -/

namespace Sys2Proof

@[simp] theorem opcOf_cmdWord (opc a : Byte) (b : Word) : opcOf (cmdWord opc a b) = opc := by
  apply BitVec.eq_of_getLsbD_eq
  intro i hi
  simp only [opcOf, cmdWord, BitVec.getLsbD_extractLsb', BitVec.getLsbD_or, BitVec.getLsbD_shiftLeft,
    BitVec.getLsbD_setWidth]
  simp [hi, show i < 16 by omega, show i < 32 by omega]

@[simp] theorem aOf_cmdWord (opc a : Byte) (b : Word) : aOf (cmdWord opc a b) = a := by
  apply BitVec.eq_of_getLsbD_eq
  intro i hi
  simp only [aOf, cmdWord, BitVec.getLsbD_extractLsb', BitVec.getLsbD_or, BitVec.getLsbD_shiftLeft,
    BitVec.getLsbD_setWidth]
  simp [hi, show 8 + i < 16 by omega, show 8 + i < 32 by omega]
  intro; omega

@[simp] theorem bOf_cmdWord (opc a : Byte) (b : Word) : bOf (cmdWord opc a b) = b := by
  apply BitVec.eq_of_getLsbD_eq
  intro i hi
  simp only [bOf, cmdWord, BitVec.getLsbD_extractLsb', BitVec.getLsbD_or, BitVec.getLsbD_shiftLeft,
    BitVec.getLsbD_setWidth]
  simp [hi, show 16 + i < 32 by omega, BitVec.getLsbD_of_ge opc (16 + i) (by omega),
    BitVec.getLsbD_of_ge a (16 + i - 8) (by omega)]
  intro; omega

@[simp] theorem nOf_setWidth (n : Word) : nOf (n.setWidth 32) = n := by
  apply BitVec.eq_of_getLsbD_eq
  intro i hi
  simp [nOf, hi, show i < 32 by omega]

@[simp] theorem be16_hi_lo (w : Word) : be16 (hi w) (lo w) = w := by
  apply BitVec.eq_of_getLsbD_eq
  intro i hi
  simp only [be16, Sys2Proof.hi, Sys2Proof.lo, BitVec.getLsbD_or, BitVec.getLsbD_shiftLeft,
    BitVec.getLsbD_setWidth, BitVec.getLsbD_extractLsb']
  by_cases h : i < 8
  · simp [h, hi]
  · simp [h, hi, show i - 8 < 8 by omega, show i - 8 < 16 by omega, show 8 + (i - 8) = i by omega]

@[simp] theorem hi_be16 (a b : Byte) : hi (be16 a b) = a := by
  apply BitVec.eq_of_getLsbD_eq
  intro i h
  simp [be16, Sys2Proof.hi, h, show 8 + i < 16 by omega]

@[simp] theorem lo_be16 (a b : Byte) : lo (be16 a b) = b := by
  apply BitVec.eq_of_getLsbD_eq
  intro i h
  simp [be16, Sys2Proof.lo, h, show i < 16 by omega]

@[simp] theorem frameBytes_length (u fc : Byte) (body : List Byte) (crc : Word) :
    (frameBytes u fc body crc).length = body.length + 4 := by simp [frameBytes]

/-- The decoder takes a frame apart into the parts it was made of. -/
theorem decodeFrame_frameBytes (u fc : Byte) (body : List Byte) (crc : Word) :
    decodeFrame (frameBytes u fc body crc) = decodeParts u fc body crc := by
  simp [decodeFrame, frameBytes]

end Sys2Proof
end

