-- ==== Sys2Proof/Laws/Format.lean ====
section
/-! SUPPORT. Lengths and shapes of checksummed sequences, requests, replies and texts. -/

namespace Sys2Proof.Machine

@[simp] theorem appendCrc_length (d : List Byte) : (appendCrc d).length = d.length + 2 := by
  simp [appendCrc]

@[simp] theorem wordBytes_length (ws : List Word) : (wordBytes ws).length = 2 * ws.length := by
  induction ws with
  | nil => rfl
  | cons w ws ih => simp [wordBytes, ih]; omega

@[simp] theorem buildRead_length (u : Byte) (s c : Word) : (buildRead u s c).length = 8 := by
  simp [buildRead]

@[simp] theorem buildWrite_length (u : Byte) (s : Word) (v : List Word) :
    (buildWrite u s v).length = 9 + 2 * v.length := by
  simp [buildWrite]; omega

@[simp] theorem replyWords_length (rx : List Byte) (c : Nat) : (replyWords rx c).length = c := by
  simp [replyWords]

/-- The bytes of a word list, by position. -/
theorem wordBytes_getD (ws : List Word) : ∀ (i : Nat), i < ws.length →
    (wordBytes ws).getD (2 * i) 0 = hi (ws.getD i 0) ∧ (wordBytes ws).getD (2 * i + 1) 0 = lo (ws.getD i 0) := by
  induction ws with
  | nil => intro i h; simp at h
  | cons w ws ih =>
    intro i h
    cases i with
    | zero => simp [wordBytes]
    | succ i =>
      have := ih i (by simpa using h)
      rw [show 2 * (i + 1) = 2 * i + 2 by omega]
      simpa [wordBytes] using this

/-- A text is never longer than its block (43_codecs.md R198). -/
theorem textLen_le (ws : List Word) : textLen ws ≤ 2 * ws.length := by
  induction ws with
  | nil => simp [textLen]
  | cons w ws ih => simp only [textLen, List.length_cons]; split <;> omega

@[simp] theorem textBytes_length (ws : List Word) : (textBytes ws).length = textLen ws := by
  simp [textBytes, textLen_le]

/-- A count in range, as numbers (42_rtu_transaction.md R151). -/
theorem countOk_iff (c : Word) : countOk c = true ↔ 1 ≤ c.toNat ∧ c.toNat ≤ 127 := by
  simp only [countOk, Bool.and_eq_true, decide_eq_true_eq, Config.maxCount]

/-- A channel in range, as numbers (44_device_ops.md R222). -/
theorem channelOk_iff (ch : Byte) : channelOk ch = true ↔ 1 ≤ ch.toNat ∧ ch.toNat ≤ 32 := by
  simp only [channelOk, Bool.and_eq_true, decide_eq_true_eq, Config.channels]

/-- A reply needs at least the five bytes of an exception reply (41_rtu_frame.md R130, R134). -/
theorem Tr.five_le_need (t : Tr) (rx : List Byte) : 5 ≤ t.need rx := by
  simp only [Tr.need, needRead, needWrite]
  split <;> split <;> omega

/-- A reply needs no more than RXBUF holds, for a count of R151. -/
theorem Tr.need_le (t : Tr) (rx : List Byte) (h : t.count.toNat ≤ 127) : t.need rx ≤ Config.rxbufCap := by
  simp only [Tr.need, needRead, needWrite, Config.rxbufCap]
  split <;> split <;> omega

/-- The needed length depends on byte 1 alone, so it stops changing once two bytes are there. -/
theorem Tr.need_append (t : Tr) (rx more : List Byte) (h : 2 ≤ rx.length) : t.need (rx ++ more) = t.need rx := by
  simp [Tr.need, needRead, needWrite, List.getElem?_append_left (show 1 < rx.length by omega)]

/-- A valid read reply gives exactly the requested number of words (R131). -/
theorem validateRead_length {rx : List Byte} {u : Byte} {c : Nat} {w : List Word}
    (h : validateRead rx u c = .ok w) : w.length = c := by
  unfold validateRead at h
  repeat' split at h
  all_goals first | (cases h; done) | (cases h; simp)

/-- A write reply gives no words (R135). -/
theorem validateWrite_words {rx : List Byte} {u : Byte} {w : List Word} (h : validateWrite rx u = .ok w) :
    w = [] := by
  unfold validateWrite at h
  repeat' split at h
  all_goals cases h
  rfl

/-- The EXC_CODE of a failed validation is 0 unless the failure is a device exception (60_exceptions.md R252). -/
theorem Tr.validate_excCode {t : Tr} {rx : List Byte} {e : CmdError} {x : Byte}
    (h : t.validate rx = .error (e, x)) : e = .exception ∨ x = 0 := by
  unfold Tr.validate validateRead validateWrite at h
  repeat' split at h
  all_goals cases h
  all_goals simp

end Sys2Proof.Machine
end

