-- ==== Sys2Proof/Laws/State.lean ====
section
/-! SUPPORT. One lemma per field per update of State and of Status, true by rfl, so that no proof unfolds a record
update. -/

namespace Sys2Proof.Machine

section StatusUpdates
variable (st : Status)

@[simp] theorem Status.cleared_state : st.cleared.state = st.state := rfl
@[simp] theorem Status.cleared_busy : st.cleared.busy = st.busy := rfl
@[simp] theorem Status.cleared_done : st.cleared.done = false := rfl
@[simp] theorem Status.cleared_ok : st.cleared.ok = false := rfl
@[simp] theorem Status.cleared_allFf : st.cleared.allFf = false := rfl
@[simp] theorem Status.cleared_err : st.cleared.err = none := rfl
@[simp] theorem Status.cleared_excCode : st.cleared.excCode = 0 := rfl
@[simp] theorem Status.cleared_retriesLeft : st.cleared.retriesLeft = st.retriesLeft := rfl
@[simp] theorem Status.succeeded_state : st.succeeded.state = st.state := rfl
@[simp] theorem Status.succeeded_busy : st.succeeded.busy = st.busy := rfl
@[simp] theorem Status.succeeded_done : st.succeeded.done = true := rfl
@[simp] theorem Status.succeeded_ok : st.succeeded.ok = true := rfl
@[simp] theorem Status.succeeded_allFf : st.succeeded.allFf = st.allFf := rfl
@[simp] theorem Status.succeeded_err : st.succeeded.err = st.err := rfl
@[simp] theorem Status.succeeded_excCode : st.succeeded.excCode = st.excCode := rfl
@[simp] theorem Status.succeeded_retriesLeft : st.succeeded.retriesLeft = st.retriesLeft := rfl
@[simp] theorem Status.raised_state (e : CmdError) : (st.raised e).state = st.state := rfl
@[simp] theorem Status.raised_busy (e : CmdError) : (st.raised e).busy = st.busy := rfl
@[simp] theorem Status.raised_done (e : CmdError) : (st.raised e).done = true := rfl
@[simp] theorem Status.raised_ok (e : CmdError) : (st.raised e).ok = false := rfl
@[simp] theorem Status.raised_allFf (e : CmdError) : (st.raised e).allFf = st.allFf := rfl
@[simp] theorem Status.raised_err (e : CmdError) : (st.raised e).err = some e := rfl
@[simp] theorem Status.raised_excCode (e : CmdError) : (st.raised e).excCode = st.excCode := rfl
@[simp] theorem Status.raised_retriesLeft (e : CmdError) : (st.raised e).retriesLeft = st.retriesLeft := rfl
@[simp] theorem Status.idled_state : st.idled.state = .idle := rfl
@[simp] theorem Status.idled_busy : st.idled.busy = false := rfl
@[simp] theorem Status.idled_done : st.idled.done = st.done := rfl
@[simp] theorem Status.idled_ok : st.idled.ok = st.ok := rfl
@[simp] theorem Status.idled_allFf : st.idled.allFf = st.allFf := rfl
@[simp] theorem Status.idled_err : st.idled.err = st.err := rfl
@[simp] theorem Status.idled_excCode : st.idled.excCode = st.excCode := rfl
@[simp] theorem Status.idled_retriesLeft : st.idled.retriesLeft = 0 := rfl

end StatusUpdates

section StateUpdates
variable (s : State)

@[simp] theorem State.accept_cmd (c : Reg) : (s.accept c).cmd = c := rfl
@[simp] theorem State.accept_arg (c : Reg) : (s.accept c).arg = s.arg := rfl
@[simp] theorem State.accept_status (c : Reg) : (s.accept c).status = s.status.cleared := rfl
@[simp] theorem State.accept_result (c : Reg) : (s.accept c).result = s.result := rfl
@[simp] theorem State.accept_resultWritten (c : Reg) : (s.accept c).resultWritten = s.resultWritten := rfl
@[simp] theorem State.accept_fault (c : Reg) : (s.accept c).fault = s.fault := rfl
@[simp] theorem State.accept_session (c : Reg) : (s.accept c).session = s.session := rfl
@[simp] theorem State.accept_cfg (c : Reg) : (s.accept c).cfg = s.cfg := rfl
@[simp] theorem State.accept_bufLen (c : Reg) : (s.accept c).bufLen = s.bufLen := rfl
@[simp] theorem State.accept_txLen (c : Reg) : (s.accept c).txLen = s.txLen := rfl
@[simp] theorem State.accept_rxCount (c : Reg) : (s.accept c).rxCount = s.rxCount := rfl
@[simp] theorem State.accept_seq (c : Reg) : (s.accept c).seq = { idx := 0, total := 0 } := rfl
@[simp] theorem State.accept_buf (c : Reg) : (s.accept c).buf = s.buf := rfl
@[simp] theorem State.accept_wbuf (c : Reg) : (s.accept c).wbuf = s.wbuf := rfl
@[simp] theorem State.accept_txbuf (c : Reg) : (s.accept c).txbuf = s.txbuf := rfl
@[simp] theorem State.accept_rxbuf (c : Reg) : (s.accept c).rxbuf = s.rxbuf := rfl
@[simp] theorem State.accept_vr (c : Reg) : (s.accept c).vr = s.vr := rfl
@[simp] theorem State.accept_snap (c : Reg) : (s.accept c).snap = s.snap := rfl
@[simp] theorem State.accept_cur (c : Reg) :
    (s.accept c).cur = { opc := opcOf c, a := aOf c, b := bOf c, arg := s.arg } := rfl
@[simp] theorem State.accept_unit (c : Reg) : (s.accept c).unit = s.unit := rfl
@[simp] theorem State.accept_tr (c : Reg) : (s.accept c).tr = s.tr := rfl
@[simp] theorem State.accept_td (c : Reg) : (s.accept c).td = s.td := rfl
@[simp] theorem State.accept_stage (c : Reg) : (s.accept c).stage = s.stage := rfl
@[simp] theorem State.accept_link (c : Reg) : (s.accept c).link = s.link := rfl
@[simp] theorem State.accept_time (c : Reg) : (s.accept c).time = s.time := rfl
@[simp] theorem State.accept_rdata (c : Reg) : (s.accept c).rdata = s.rdata := rfl
@[simp] theorem State.accept_draws (c : Reg) : (s.accept c).draws = s.draws := rfl
@[simp] theorem State.accept_inputs (c : Reg) : (s.accept c).inputs = s.inputs := rfl

@[simp] theorem State.setResult_cmd (v : Reg) : (s.setResult v).cmd = s.cmd := rfl
@[simp] theorem State.setResult_arg (v : Reg) : (s.setResult v).arg = s.arg := rfl
@[simp] theorem State.setResult_status (v : Reg) : (s.setResult v).status = s.status := rfl
@[simp] theorem State.setResult_result (v : Reg) : (s.setResult v).result = v := rfl
@[simp] theorem State.setResult_resultWritten (v : Reg) : (s.setResult v).resultWritten = true := rfl
@[simp] theorem State.setResult_fault (v : Reg) : (s.setResult v).fault = s.fault := rfl
@[simp] theorem State.setResult_session (v : Reg) : (s.setResult v).session = s.session := rfl
@[simp] theorem State.setResult_cfg (v : Reg) : (s.setResult v).cfg = s.cfg := rfl
@[simp] theorem State.setResult_bufLen (v : Reg) : (s.setResult v).bufLen = s.bufLen := rfl
@[simp] theorem State.setResult_txLen (v : Reg) : (s.setResult v).txLen = s.txLen := rfl
@[simp] theorem State.setResult_rxCount (v : Reg) : (s.setResult v).rxCount = s.rxCount := rfl
@[simp] theorem State.setResult_seq (v : Reg) : (s.setResult v).seq = s.seq := rfl
@[simp] theorem State.setResult_buf (v : Reg) : (s.setResult v).buf = s.buf := rfl
@[simp] theorem State.setResult_wbuf (v : Reg) : (s.setResult v).wbuf = s.wbuf := rfl
@[simp] theorem State.setResult_txbuf (v : Reg) : (s.setResult v).txbuf = s.txbuf := rfl
@[simp] theorem State.setResult_rxbuf (v : Reg) : (s.setResult v).rxbuf = s.rxbuf := rfl
@[simp] theorem State.setResult_vr (v : Reg) : (s.setResult v).vr = s.vr := rfl
@[simp] theorem State.setResult_snap (v : Reg) : (s.setResult v).snap = s.snap := rfl
@[simp] theorem State.setResult_cur (v : Reg) : (s.setResult v).cur = s.cur := rfl
@[simp] theorem State.setResult_unit (v : Reg) : (s.setResult v).unit = s.unit := rfl
@[simp] theorem State.setResult_tr (v : Reg) : (s.setResult v).tr = s.tr := rfl
@[simp] theorem State.setResult_td (v : Reg) : (s.setResult v).td = s.td := rfl
@[simp] theorem State.setResult_stage (v : Reg) : (s.setResult v).stage = s.stage := rfl
@[simp] theorem State.setResult_link (v : Reg) : (s.setResult v).link = s.link := rfl
@[simp] theorem State.setResult_time (v : Reg) : (s.setResult v).time = s.time := rfl
@[simp] theorem State.setResult_rdata (v : Reg) : (s.setResult v).rdata = s.rdata := rfl
@[simp] theorem State.setResult_draws (v : Reg) : (s.setResult v).draws = s.draws := rfl
@[simp] theorem State.setResult_inputs (v : Reg) : (s.setResult v).inputs = s.inputs := rfl

@[simp] theorem State.complete_cmd (v : Reg) : (s.complete v).cmd = s.cmd := rfl
@[simp] theorem State.complete_arg (v : Reg) : (s.complete v).arg = s.arg := rfl
@[simp] theorem State.complete_status (v : Reg) : (s.complete v).status = s.status.succeeded := rfl
@[simp] theorem State.complete_result (v : Reg) : (s.complete v).result = v := rfl
@[simp] theorem State.complete_resultWritten (v : Reg) : (s.complete v).resultWritten = true := rfl
@[simp] theorem State.complete_fault (v : Reg) : (s.complete v).fault = s.fault := rfl
@[simp] theorem State.complete_session (v : Reg) : (s.complete v).session = s.session := rfl
@[simp] theorem State.complete_cfg (v : Reg) : (s.complete v).cfg = s.cfg := rfl
@[simp] theorem State.complete_bufLen (v : Reg) : (s.complete v).bufLen = s.bufLen := rfl
@[simp] theorem State.complete_txLen (v : Reg) : (s.complete v).txLen = s.txLen := rfl
@[simp] theorem State.complete_rxCount (v : Reg) : (s.complete v).rxCount = s.rxCount := rfl
@[simp] theorem State.complete_seq (v : Reg) : (s.complete v).seq = s.seq := rfl
@[simp] theorem State.complete_buf (v : Reg) : (s.complete v).buf = s.buf := rfl
@[simp] theorem State.complete_wbuf (v : Reg) : (s.complete v).wbuf = s.wbuf := rfl
@[simp] theorem State.complete_txbuf (v : Reg) : (s.complete v).txbuf = s.txbuf := rfl
@[simp] theorem State.complete_rxbuf (v : Reg) : (s.complete v).rxbuf = s.rxbuf := rfl
@[simp] theorem State.complete_vr (v : Reg) : (s.complete v).vr = s.vr := rfl
@[simp] theorem State.complete_snap (v : Reg) : (s.complete v).snap = s.snap := rfl
@[simp] theorem State.complete_cur (v : Reg) : (s.complete v).cur = s.cur := rfl
@[simp] theorem State.complete_unit (v : Reg) : (s.complete v).unit = s.unit := rfl
@[simp] theorem State.complete_tr (v : Reg) : (s.complete v).tr = s.tr := rfl
@[simp] theorem State.complete_td (v : Reg) : (s.complete v).td = s.td := rfl
@[simp] theorem State.complete_stage (v : Reg) : (s.complete v).stage = s.stage := rfl
@[simp] theorem State.complete_link (v : Reg) : (s.complete v).link = s.link := rfl
@[simp] theorem State.complete_time (v : Reg) : (s.complete v).time = s.time := rfl
@[simp] theorem State.complete_rdata (v : Reg) : (s.complete v).rdata = s.rdata := rfl
@[simp] theorem State.complete_draws (v : Reg) : (s.complete v).draws = s.draws := rfl
@[simp] theorem State.complete_inputs (v : Reg) : (s.complete v).inputs = s.inputs := rfl

@[simp] theorem State.raise_cmd (e : CmdError) : (s.raise e).cmd = s.cmd := rfl
@[simp] theorem State.raise_arg (e : CmdError) : (s.raise e).arg = s.arg := rfl
@[simp] theorem State.raise_status (e : CmdError) : (s.raise e).status = s.status.raised e := rfl
@[simp] theorem State.raise_result (e : CmdError) : (s.raise e).result = s.result := rfl
@[simp] theorem State.raise_resultWritten (e : CmdError) : (s.raise e).resultWritten = s.resultWritten := rfl
@[simp] theorem State.raise_fault (e : CmdError) : (s.raise e).fault = s.fault := rfl
@[simp] theorem State.raise_session (e : CmdError) : (s.raise e).session = s.session := rfl
@[simp] theorem State.raise_cfg (e : CmdError) : (s.raise e).cfg = s.cfg := rfl
@[simp] theorem State.raise_bufLen (e : CmdError) : (s.raise e).bufLen = s.bufLen := rfl
@[simp] theorem State.raise_txLen (e : CmdError) : (s.raise e).txLen = s.txLen := rfl
@[simp] theorem State.raise_rxCount (e : CmdError) : (s.raise e).rxCount = s.rxCount := rfl
@[simp] theorem State.raise_seq (e : CmdError) : (s.raise e).seq = s.seq := rfl
@[simp] theorem State.raise_buf (e : CmdError) : (s.raise e).buf = s.buf := rfl
@[simp] theorem State.raise_wbuf (e : CmdError) : (s.raise e).wbuf = s.wbuf := rfl
@[simp] theorem State.raise_txbuf (e : CmdError) : (s.raise e).txbuf = s.txbuf := rfl
@[simp] theorem State.raise_rxbuf (e : CmdError) : (s.raise e).rxbuf = s.rxbuf := rfl
@[simp] theorem State.raise_vr (e : CmdError) : (s.raise e).vr = s.vr := rfl
@[simp] theorem State.raise_snap (e : CmdError) : (s.raise e).snap = s.snap := rfl
@[simp] theorem State.raise_cur (e : CmdError) : (s.raise e).cur = s.cur := rfl
@[simp] theorem State.raise_unit (e : CmdError) : (s.raise e).unit = s.unit := rfl
@[simp] theorem State.raise_tr (e : CmdError) : (s.raise e).tr = s.tr := rfl
@[simp] theorem State.raise_td (e : CmdError) : (s.raise e).td = s.td := rfl
@[simp] theorem State.raise_stage (e : CmdError) : (s.raise e).stage = s.stage := rfl
@[simp] theorem State.raise_link (e : CmdError) : (s.raise e).link = s.link := rfl
@[simp] theorem State.raise_time (e : CmdError) : (s.raise e).time = s.time := rfl
@[simp] theorem State.raise_rdata (e : CmdError) : (s.raise e).rdata = s.rdata := rfl
@[simp] theorem State.raise_draws (e : CmdError) : (s.raise e).draws = s.draws := rfl
@[simp] theorem State.raise_inputs (e : CmdError) : (s.raise e).inputs = s.inputs := rfl

@[simp] theorem State.setExcCode_cmd (x : Byte) : (s.setExcCode x).cmd = s.cmd := rfl
@[simp] theorem State.setExcCode_arg (x : Byte) : (s.setExcCode x).arg = s.arg := rfl
@[simp] theorem State.setExcCode_status (x : Byte) : (s.setExcCode x).status = { s.status with excCode := x } := rfl
@[simp] theorem State.setExcCode_result (x : Byte) : (s.setExcCode x).result = s.result := rfl
@[simp] theorem State.setExcCode_resultWritten (x : Byte) : (s.setExcCode x).resultWritten = s.resultWritten := rfl
@[simp] theorem State.setExcCode_fault (x : Byte) : (s.setExcCode x).fault = s.fault := rfl
@[simp] theorem State.setExcCode_session (x : Byte) : (s.setExcCode x).session = s.session := rfl
@[simp] theorem State.setExcCode_cfg (x : Byte) : (s.setExcCode x).cfg = s.cfg := rfl
@[simp] theorem State.setExcCode_bufLen (x : Byte) : (s.setExcCode x).bufLen = s.bufLen := rfl
@[simp] theorem State.setExcCode_txLen (x : Byte) : (s.setExcCode x).txLen = s.txLen := rfl
@[simp] theorem State.setExcCode_rxCount (x : Byte) : (s.setExcCode x).rxCount = s.rxCount := rfl
@[simp] theorem State.setExcCode_seq (x : Byte) : (s.setExcCode x).seq = s.seq := rfl
@[simp] theorem State.setExcCode_buf (x : Byte) : (s.setExcCode x).buf = s.buf := rfl
@[simp] theorem State.setExcCode_wbuf (x : Byte) : (s.setExcCode x).wbuf = s.wbuf := rfl
@[simp] theorem State.setExcCode_txbuf (x : Byte) : (s.setExcCode x).txbuf = s.txbuf := rfl
@[simp] theorem State.setExcCode_rxbuf (x : Byte) : (s.setExcCode x).rxbuf = s.rxbuf := rfl
@[simp] theorem State.setExcCode_vr (x : Byte) : (s.setExcCode x).vr = s.vr := rfl
@[simp] theorem State.setExcCode_snap (x : Byte) : (s.setExcCode x).snap = s.snap := rfl
@[simp] theorem State.setExcCode_cur (x : Byte) : (s.setExcCode x).cur = s.cur := rfl
@[simp] theorem State.setExcCode_unit (x : Byte) : (s.setExcCode x).unit = s.unit := rfl
@[simp] theorem State.setExcCode_tr (x : Byte) : (s.setExcCode x).tr = s.tr := rfl
@[simp] theorem State.setExcCode_td (x : Byte) : (s.setExcCode x).td = s.td := rfl
@[simp] theorem State.setExcCode_stage (x : Byte) : (s.setExcCode x).stage = s.stage := rfl
@[simp] theorem State.setExcCode_link (x : Byte) : (s.setExcCode x).link = s.link := rfl
@[simp] theorem State.setExcCode_time (x : Byte) : (s.setExcCode x).time = s.time := rfl
@[simp] theorem State.setExcCode_rdata (x : Byte) : (s.setExcCode x).rdata = s.rdata := rfl
@[simp] theorem State.setExcCode_draws (x : Byte) : (s.setExcCode x).draws = s.draws := rfl
@[simp] theorem State.setExcCode_inputs (x : Byte) : (s.setExcCode x).inputs = s.inputs := rfl

@[simp] theorem State.endOk_cmd : (s.endOk).cmd = s.cmd := rfl
@[simp] theorem State.endOk_arg : (s.endOk).arg = s.arg := rfl
@[simp] theorem State.endOk_status : (s.endOk).status = s.status.idled.succeeded := rfl
@[simp] theorem State.endOk_result : (s.endOk).result = s.result := rfl
@[simp] theorem State.endOk_resultWritten : (s.endOk).resultWritten = s.resultWritten := rfl
@[simp] theorem State.endOk_fault : (s.endOk).fault = s.fault := rfl
@[simp] theorem State.endOk_session : (s.endOk).session = s.session := rfl
@[simp] theorem State.endOk_cfg : (s.endOk).cfg = s.cfg := rfl
@[simp] theorem State.endOk_bufLen : (s.endOk).bufLen = s.bufLen := rfl
@[simp] theorem State.endOk_txLen : (s.endOk).txLen = s.txLen := rfl
@[simp] theorem State.endOk_rxCount : (s.endOk).rxCount = s.rxCount := rfl
@[simp] theorem State.endOk_seq : (s.endOk).seq = s.seq := rfl
@[simp] theorem State.endOk_buf : (s.endOk).buf = s.buf := rfl
@[simp] theorem State.endOk_wbuf : (s.endOk).wbuf = s.wbuf := rfl
@[simp] theorem State.endOk_txbuf : (s.endOk).txbuf = s.txbuf := rfl
@[simp] theorem State.endOk_rxbuf : (s.endOk).rxbuf = s.rxbuf := rfl
@[simp] theorem State.endOk_vr : (s.endOk).vr = s.vr := rfl
@[simp] theorem State.endOk_snap : (s.endOk).snap = s.snap := rfl
@[simp] theorem State.endOk_cur : (s.endOk).cur = s.cur := rfl
@[simp] theorem State.endOk_unit : (s.endOk).unit = s.unit := rfl
@[simp] theorem State.endOk_tr : (s.endOk).tr = s.tr := rfl
@[simp] theorem State.endOk_td : (s.endOk).td = s.td := rfl
@[simp] theorem State.endOk_stage : (s.endOk).stage = s.stage := rfl
@[simp] theorem State.endOk_link : (s.endOk).link = s.link := rfl
@[simp] theorem State.endOk_time : (s.endOk).time = s.time := rfl
@[simp] theorem State.endOk_rdata : (s.endOk).rdata = s.rdata := rfl
@[simp] theorem State.endOk_draws : (s.endOk).draws = s.draws := rfl
@[simp] theorem State.endOk_inputs : (s.endOk).inputs = s.inputs := rfl

@[simp] theorem State.snapOffline_cmd : (s.snapOffline).cmd = s.cmd := rfl
@[simp] theorem State.snapOffline_arg : (s.snapOffline).arg = s.arg := rfl
@[simp] theorem State.snapOffline_status : (s.snapOffline).status = s.status := rfl
@[simp] theorem State.snapOffline_result : (s.snapOffline).result = s.result := rfl
@[simp] theorem State.snapOffline_resultWritten : (s.snapOffline).resultWritten = s.resultWritten := rfl
@[simp] theorem State.snapOffline_fault : (s.snapOffline).fault = s.fault := rfl
@[simp] theorem State.snapOffline_session : (s.snapOffline).session = s.session := rfl
@[simp] theorem State.snapOffline_cfg : (s.snapOffline).cfg = s.cfg := rfl
@[simp] theorem State.snapOffline_bufLen : (s.snapOffline).bufLen = s.bufLen := rfl
@[simp] theorem State.snapOffline_txLen : (s.snapOffline).txLen = s.txLen := rfl
@[simp] theorem State.snapOffline_rxCount : (s.snapOffline).rxCount = s.rxCount := rfl
@[simp] theorem State.snapOffline_seq : (s.snapOffline).seq = s.seq := rfl
@[simp] theorem State.snapOffline_buf : (s.snapOffline).buf = s.buf := rfl
@[simp] theorem State.snapOffline_wbuf : (s.snapOffline).wbuf = s.wbuf := rfl
@[simp] theorem State.snapOffline_txbuf : (s.snapOffline).txbuf = s.txbuf := rfl
@[simp] theorem State.snapOffline_rxbuf : (s.snapOffline).rxbuf = s.rxbuf := rfl
@[simp] theorem State.snapOffline_vr : (s.snapOffline).vr = s.vr := rfl
@[simp] theorem State.snapOffline_snap : (s.snapOffline).snap = { s.snap with online := false } := rfl
@[simp] theorem State.snapOffline_cur : (s.snapOffline).cur = s.cur := rfl
@[simp] theorem State.snapOffline_unit : (s.snapOffline).unit = s.unit := rfl
@[simp] theorem State.snapOffline_tr : (s.snapOffline).tr = s.tr := rfl
@[simp] theorem State.snapOffline_td : (s.snapOffline).td = s.td := rfl
@[simp] theorem State.snapOffline_stage : (s.snapOffline).stage = s.stage := rfl
@[simp] theorem State.snapOffline_link : (s.snapOffline).link = s.link := rfl
@[simp] theorem State.snapOffline_time : (s.snapOffline).time = s.time := rfl
@[simp] theorem State.snapOffline_rdata : (s.snapOffline).rdata = s.rdata := rfl
@[simp] theorem State.snapOffline_draws : (s.snapOffline).draws = s.draws := rfl
@[simp] theorem State.snapOffline_inputs : (s.snapOffline).inputs = s.inputs := rfl

@[simp] theorem State.loadTxn_cmd (k : Nat) (d : TxnDesc) : (s.loadTxn k d).cmd = s.cmd := rfl
@[simp] theorem State.loadTxn_arg (k : Nat) (d : TxnDesc) : (s.loadTxn k d).arg = s.arg := rfl
@[simp] theorem State.loadTxn_status (k : Nat) (d : TxnDesc) :
    (s.loadTxn k d).status = { s.status with busy := true, state := .sending } := rfl
@[simp] theorem State.loadTxn_result (k : Nat) (d : TxnDesc) : (s.loadTxn k d).result = s.result := rfl
@[simp] theorem State.loadTxn_resultWritten (k : Nat) (d : TxnDesc) :
    (s.loadTxn k d).resultWritten = s.resultWritten := rfl
@[simp] theorem State.loadTxn_fault (k : Nat) (d : TxnDesc) : (s.loadTxn k d).fault = s.fault := rfl
@[simp] theorem State.loadTxn_session (k : Nat) (d : TxnDesc) : (s.loadTxn k d).session = s.session := rfl
@[simp] theorem State.loadTxn_cfg (k : Nat) (d : TxnDesc) : (s.loadTxn k d).cfg = s.cfg := rfl
@[simp] theorem State.loadTxn_bufLen (k : Nat) (d : TxnDesc) : (s.loadTxn k d).bufLen = s.bufLen := rfl
@[simp] theorem State.loadTxn_txLen (k : Nat) (d : TxnDesc) :
    (s.loadTxn k d).txLen = BitVec.ofNat 9 d.frame.length := rfl
@[simp] theorem State.loadTxn_rxCount (k : Nat) (d : TxnDesc) : (s.loadTxn k d).rxCount = 0 := rfl
@[simp] theorem State.loadTxn_seq (k : Nat) (d : TxnDesc) :
    (s.loadTxn k d).seq = { s.seq with idx := BitVec.ofNat 8 k } := rfl
@[simp] theorem State.loadTxn_buf (k : Nat) (d : TxnDesc) : (s.loadTxn k d).buf = s.buf := rfl
@[simp] theorem State.loadTxn_wbuf (k : Nat) (d : TxnDesc) : (s.loadTxn k d).wbuf = s.wbuf := rfl
@[simp] theorem State.loadTxn_txbuf (k : Nat) (d : TxnDesc) :
    (s.loadTxn k d).txbuf = cellsWrite (w := 8) 0 d.frame s.txbuf := rfl
@[simp] theorem State.loadTxn_rxbuf (k : Nat) (d : TxnDesc) : (s.loadTxn k d).rxbuf = s.rxbuf := rfl
@[simp] theorem State.loadTxn_vr (k : Nat) (d : TxnDesc) : (s.loadTxn k d).vr = s.vr := rfl
@[simp] theorem State.loadTxn_snap (k : Nat) (d : TxnDesc) : (s.loadTxn k d).snap = s.snap := rfl
@[simp] theorem State.loadTxn_cur (k : Nat) (d : TxnDesc) : (s.loadTxn k d).cur = s.cur := rfl
@[simp] theorem State.loadTxn_unit (k : Nat) (d : TxnDesc) : (s.loadTxn k d).unit = s.unit := rfl
@[simp] theorem State.loadTxn_tr (k : Nat) (d : TxnDesc) :
    (s.loadTxn k d).tr = { s.tr with fc := d.fc, unit := d.unit, start := d.start, count := d.count } := rfl
@[simp] theorem State.loadTxn_td (k : Nat) (d : TxnDesc) : (s.loadTxn k d).td = s.td := rfl
@[simp] theorem State.loadTxn_stage (k : Nat) (d : TxnDesc) : (s.loadTxn k d).stage = s.stage := rfl
@[simp] theorem State.loadTxn_link (k : Nat) (d : TxnDesc) : (s.loadTxn k d).link = s.link := rfl
@[simp] theorem State.loadTxn_time (k : Nat) (d : TxnDesc) : (s.loadTxn k d).time = s.time := rfl
@[simp] theorem State.loadTxn_rdata (k : Nat) (d : TxnDesc) : (s.loadTxn k d).rdata = s.rdata := rfl
@[simp] theorem State.loadTxn_draws (k : Nat) (d : TxnDesc) : (s.loadTxn k d).draws = s.draws := rfl
@[simp] theorem State.loadTxn_inputs (k : Nat) (d : TxnDesc) : (s.loadTxn k d).inputs = s.inputs := rfl

@[simp] theorem State.stageWords_cmd (k : Nat) (w : List Word) : (s.stageWords k w).cmd = s.cmd := rfl
@[simp] theorem State.stageWords_arg (k : Nat) (w : List Word) : (s.stageWords k w).arg = s.arg := rfl
@[simp] theorem State.stageWords_status (k : Nat) (w : List Word) : (s.stageWords k w).status = s.status := rfl
@[simp] theorem State.stageWords_result (k : Nat) (w : List Word) : (s.stageWords k w).result = s.result := rfl
@[simp] theorem State.stageWords_resultWritten (k : Nat) (w : List Word) :
    (s.stageWords k w).resultWritten = s.resultWritten := rfl
@[simp] theorem State.stageWords_fault (k : Nat) (w : List Word) : (s.stageWords k w).fault = s.fault := rfl
@[simp] theorem State.stageWords_session (k : Nat) (w : List Word) : (s.stageWords k w).session = s.session := rfl
@[simp] theorem State.stageWords_cfg (k : Nat) (w : List Word) : (s.stageWords k w).cfg = s.cfg := rfl
@[simp] theorem State.stageWords_bufLen (k : Nat) (w : List Word) : (s.stageWords k w).bufLen = s.bufLen := rfl
@[simp] theorem State.stageWords_txLen (k : Nat) (w : List Word) : (s.stageWords k w).txLen = s.txLen := rfl
@[simp] theorem State.stageWords_rxCount (k : Nat) (w : List Word) : (s.stageWords k w).rxCount = s.rxCount := rfl
@[simp] theorem State.stageWords_seq (k : Nat) (w : List Word) : (s.stageWords k w).seq = s.seq := rfl
@[simp] theorem State.stageWords_buf (k : Nat) (w : List Word) : (s.stageWords k w).buf = s.buf := rfl
@[simp] theorem State.stageWords_wbuf (k : Nat) (w : List Word) : (s.stageWords k w).wbuf = s.wbuf := rfl
@[simp] theorem State.stageWords_txbuf (k : Nat) (w : List Word) : (s.stageWords k w).txbuf = s.txbuf := rfl
@[simp] theorem State.stageWords_rxbuf (k : Nat) (w : List Word) : (s.stageWords k w).rxbuf = s.rxbuf := rfl
@[simp] theorem State.stageWords_vr (k : Nat) (w : List Word) : (s.stageWords k w).vr = s.vr := rfl
@[simp] theorem State.stageWords_snap (k : Nat) (w : List Word) : (s.stageWords k w).snap = s.snap := rfl
@[simp] theorem State.stageWords_cur (k : Nat) (w : List Word) : (s.stageWords k w).cur = s.cur := rfl
@[simp] theorem State.stageWords_unit (k : Nat) (w : List Word) : (s.stageWords k w).unit = s.unit := rfl
@[simp] theorem State.stageWords_tr (k : Nat) (w : List Word) : (s.stageWords k w).tr = s.tr := rfl
@[simp] theorem State.stageWords_td (k : Nat) (w : List Word) : (s.stageWords k w).td = s.td := rfl
@[simp] theorem State.stageWords_stage (k : Nat) (w : List Word) :
    (s.stageWords k w).stage = s.stage.take k ++ [w] := rfl
@[simp] theorem State.stageWords_link (k : Nat) (w : List Word) : (s.stageWords k w).link = s.link := rfl
@[simp] theorem State.stageWords_time (k : Nat) (w : List Word) : (s.stageWords k w).time = s.time := rfl
@[simp] theorem State.stageWords_rdata (k : Nat) (w : List Word) : (s.stageWords k w).rdata = s.rdata := rfl
@[simp] theorem State.stageWords_draws (k : Nat) (w : List Word) : (s.stageWords k w).draws = s.draws := rfl
@[simp] theorem State.stageWords_inputs (k : Nat) (w : List Word) : (s.stageWords k w).inputs = s.inputs := rfl

@[simp] theorem State.receive_cmd (bytes : List Byte) : (s.receive bytes).cmd = s.cmd := rfl
@[simp] theorem State.receive_arg (bytes : List Byte) : (s.receive bytes).arg = s.arg := rfl
@[simp] theorem State.receive_status (bytes : List Byte) : (s.receive bytes).status = s.status := rfl
@[simp] theorem State.receive_result (bytes : List Byte) : (s.receive bytes).result = s.result := rfl
@[simp] theorem State.receive_resultWritten (bytes : List Byte) :
    (s.receive bytes).resultWritten = s.resultWritten := rfl
@[simp] theorem State.receive_fault (bytes : List Byte) : (s.receive bytes).fault = s.fault := rfl
@[simp] theorem State.receive_session (bytes : List Byte) : (s.receive bytes).session = s.session := rfl
@[simp] theorem State.receive_cfg (bytes : List Byte) : (s.receive bytes).cfg = s.cfg := rfl
@[simp] theorem State.receive_bufLen (bytes : List Byte) : (s.receive bytes).bufLen = s.bufLen := rfl
@[simp] theorem State.receive_txLen (bytes : List Byte) : (s.receive bytes).txLen = s.txLen := rfl
@[simp] theorem State.receive_rxCount (bytes : List Byte) : (s.receive bytes).rxCount = s.rxCount := rfl
@[simp] theorem State.receive_seq (bytes : List Byte) : (s.receive bytes).seq = s.seq := rfl
@[simp] theorem State.receive_buf (bytes : List Byte) : (s.receive bytes).buf = s.buf := rfl
@[simp] theorem State.receive_wbuf (bytes : List Byte) : (s.receive bytes).wbuf = s.wbuf := rfl
@[simp] theorem State.receive_txbuf (bytes : List Byte) : (s.receive bytes).txbuf = s.txbuf := rfl
@[simp] theorem State.receive_rxbuf (bytes : List Byte) : (s.receive bytes).rxbuf = s.rxbuf := rfl
@[simp] theorem State.receive_vr (bytes : List Byte) : (s.receive bytes).vr = s.vr := rfl
@[simp] theorem State.receive_snap (bytes : List Byte) : (s.receive bytes).snap = s.snap := rfl
@[simp] theorem State.receive_cur (bytes : List Byte) : (s.receive bytes).cur = s.cur := rfl
@[simp] theorem State.receive_unit (bytes : List Byte) : (s.receive bytes).unit = s.unit := rfl
@[simp] theorem State.receive_tr (bytes : List Byte) : (s.receive bytes).tr = s.tr := rfl
@[simp] theorem State.receive_td (bytes : List Byte) : (s.receive bytes).td = s.td := rfl
@[simp] theorem State.receive_stage (bytes : List Byte) : (s.receive bytes).stage = s.stage := rfl
@[simp] theorem State.receive_link (bytes : List Byte) :
    (s.receive bytes).link =
      { s.link with rxq := if s.isCut then s.link.rxq else s.link.rxq ++ bytes } := rfl
@[simp] theorem State.receive_time (bytes : List Byte) : (s.receive bytes).time = s.time := rfl
@[simp] theorem State.receive_rdata (bytes : List Byte) : (s.receive bytes).rdata = s.rdata := rfl
@[simp] theorem State.receive_draws (bytes : List Byte) : (s.receive bytes).draws = s.draws := rfl
@[simp] theorem State.receive_inputs (bytes : List Byte) : (s.receive bytes).inputs = s.inputs := rfl

@[simp] theorem State.atTxn_cmd (k : Nat) : (s.atTxn k).cmd = s.cmd := rfl
@[simp] theorem State.atTxn_arg (k : Nat) : (s.atTxn k).arg = s.arg := rfl
@[simp] theorem State.atTxn_status (k : Nat) : (s.atTxn k).status = s.status := rfl
@[simp] theorem State.atTxn_result (k : Nat) : (s.atTxn k).result = s.result := rfl
@[simp] theorem State.atTxn_resultWritten (k : Nat) : (s.atTxn k).resultWritten = s.resultWritten := rfl
@[simp] theorem State.atTxn_fault (k : Nat) : (s.atTxn k).fault = s.fault := rfl
@[simp] theorem State.atTxn_session (k : Nat) : (s.atTxn k).session = s.session := rfl
@[simp] theorem State.atTxn_cfg (k : Nat) : (s.atTxn k).cfg = s.cfg := rfl
@[simp] theorem State.atTxn_bufLen (k : Nat) : (s.atTxn k).bufLen = s.bufLen := rfl
@[simp] theorem State.atTxn_txLen (k : Nat) : (s.atTxn k).txLen = s.txLen := rfl
@[simp] theorem State.atTxn_rxCount (k : Nat) : (s.atTxn k).rxCount = s.rxCount := rfl
@[simp] theorem State.atTxn_seq (k : Nat) : (s.atTxn k).seq = { s.seq with idx := BitVec.ofNat 8 k } := rfl
@[simp] theorem State.atTxn_buf (k : Nat) : (s.atTxn k).buf = s.buf := rfl
@[simp] theorem State.atTxn_wbuf (k : Nat) : (s.atTxn k).wbuf = s.wbuf := rfl
@[simp] theorem State.atTxn_txbuf (k : Nat) : (s.atTxn k).txbuf = s.txbuf := rfl
@[simp] theorem State.atTxn_rxbuf (k : Nat) : (s.atTxn k).rxbuf = s.rxbuf := rfl
@[simp] theorem State.atTxn_vr (k : Nat) : (s.atTxn k).vr = s.vr := rfl
@[simp] theorem State.atTxn_snap (k : Nat) : (s.atTxn k).snap = s.snap := rfl
@[simp] theorem State.atTxn_cur (k : Nat) : (s.atTxn k).cur = s.cur := rfl
@[simp] theorem State.atTxn_unit (k : Nat) : (s.atTxn k).unit = s.unit := rfl
@[simp] theorem State.atTxn_tr (k : Nat) : (s.atTxn k).tr = s.tr := rfl
@[simp] theorem State.atTxn_td (k : Nat) : (s.atTxn k).td = s.td := rfl
@[simp] theorem State.atTxn_stage (k : Nat) : (s.atTxn k).stage = s.stage := rfl
@[simp] theorem State.atTxn_link (k : Nat) : (s.atTxn k).link = s.link := rfl
@[simp] theorem State.atTxn_time (k : Nat) : (s.atTxn k).time = s.time := rfl
@[simp] theorem State.atTxn_rdata (k : Nat) : (s.atTxn k).rdata = s.rdata := rfl
@[simp] theorem State.atTxn_draws (k : Nat) : (s.atTxn k).draws = s.draws := rfl
@[simp] theorem State.atTxn_inputs (k : Nat) : (s.atTxn k).inputs = s.inputs := rfl

@[simp] theorem State.changeOpen_cmd (o : Bool) : (s.changeOpen o).cmd = s.cmd := rfl
@[simp] theorem State.changeOpen_arg (o : Bool) : (s.changeOpen o).arg = s.arg := rfl
@[simp] theorem State.changeOpen_status (o : Bool) : (s.changeOpen o).status = s.status := rfl
@[simp] theorem State.changeOpen_result (o : Bool) : (s.changeOpen o).result = s.result := rfl
@[simp] theorem State.changeOpen_resultWritten (o : Bool) : (s.changeOpen o).resultWritten = s.resultWritten := rfl
@[simp] theorem State.changeOpen_fault (o : Bool) : (s.changeOpen o).fault = s.fault := rfl
@[simp] theorem State.changeOpen_session (o : Bool) : (s.changeOpen o).session = s.session := rfl
@[simp] theorem State.changeOpen_cfg (o : Bool) : (s.changeOpen o).cfg = s.cfg := rfl
@[simp] theorem State.changeOpen_bufLen (o : Bool) : (s.changeOpen o).bufLen = s.bufLen := rfl
@[simp] theorem State.changeOpen_txLen (o : Bool) : (s.changeOpen o).txLen = s.txLen := rfl
@[simp] theorem State.changeOpen_rxCount (o : Bool) : (s.changeOpen o).rxCount = s.rxCount := rfl
@[simp] theorem State.changeOpen_seq (o : Bool) : (s.changeOpen o).seq = s.seq := rfl
@[simp] theorem State.changeOpen_buf (o : Bool) : (s.changeOpen o).buf = s.buf := rfl
@[simp] theorem State.changeOpen_wbuf (o : Bool) : (s.changeOpen o).wbuf = s.wbuf := rfl
@[simp] theorem State.changeOpen_txbuf (o : Bool) : (s.changeOpen o).txbuf = s.txbuf := rfl
@[simp] theorem State.changeOpen_rxbuf (o : Bool) : (s.changeOpen o).rxbuf = s.rxbuf := rfl
@[simp] theorem State.changeOpen_vr (o : Bool) : (s.changeOpen o).vr = s.vr := rfl
@[simp] theorem State.changeOpen_snap (o : Bool) : (s.changeOpen o).snap = s.snap := rfl
@[simp] theorem State.changeOpen_cur (o : Bool) : (s.changeOpen o).cur = s.cur := rfl
@[simp] theorem State.changeOpen_unit (o : Bool) : (s.changeOpen o).unit = s.unit := rfl
@[simp] theorem State.changeOpen_tr (o : Bool) : (s.changeOpen o).tr = s.tr := rfl
@[simp] theorem State.changeOpen_td (o : Bool) : (s.changeOpen o).td = s.td := rfl
@[simp] theorem State.changeOpen_stage (o : Bool) : (s.changeOpen o).stage = s.stage := rfl
@[simp] theorem State.changeOpen_link (o : Bool) :
    (s.changeOpen o).link = { s.link with
      isOpen := o
      cut := if o = false ∧ s.status.state = .awaiting then true else s.link.cut } := rfl
@[simp] theorem State.changeOpen_time (o : Bool) : (s.changeOpen o).time = s.time := rfl
@[simp] theorem State.changeOpen_rdata (o : Bool) : (s.changeOpen o).rdata = s.rdata := rfl
@[simp] theorem State.changeOpen_draws (o : Bool) : (s.changeOpen o).draws = s.draws := rfl
@[simp] theorem State.changeOpen_inputs (o : Bool) : (s.changeOpen o).inputs = s.inputs := rfl

@[simp] theorem State.badAccess_cmd : (s.badAccess).cmd = s.cmd := rfl
@[simp] theorem State.badAccess_arg : (s.badAccess).arg = s.arg := rfl
@[simp] theorem State.badAccess_status : (s.badAccess).status = s.status := rfl
@[simp] theorem State.badAccess_result : (s.badAccess).result = s.result := rfl
@[simp] theorem State.badAccess_resultWritten : (s.badAccess).resultWritten = s.resultWritten := rfl
@[simp] theorem State.badAccess_fault : (s.badAccess).fault = { s.fault with badAccess := true } := rfl
@[simp] theorem State.badAccess_session : (s.badAccess).session = s.session := rfl
@[simp] theorem State.badAccess_cfg : (s.badAccess).cfg = s.cfg := rfl
@[simp] theorem State.badAccess_bufLen : (s.badAccess).bufLen = s.bufLen := rfl
@[simp] theorem State.badAccess_txLen : (s.badAccess).txLen = s.txLen := rfl
@[simp] theorem State.badAccess_rxCount : (s.badAccess).rxCount = s.rxCount := rfl
@[simp] theorem State.badAccess_seq : (s.badAccess).seq = s.seq := rfl
@[simp] theorem State.badAccess_buf : (s.badAccess).buf = s.buf := rfl
@[simp] theorem State.badAccess_wbuf : (s.badAccess).wbuf = s.wbuf := rfl
@[simp] theorem State.badAccess_txbuf : (s.badAccess).txbuf = s.txbuf := rfl
@[simp] theorem State.badAccess_rxbuf : (s.badAccess).rxbuf = s.rxbuf := rfl
@[simp] theorem State.badAccess_vr : (s.badAccess).vr = s.vr := rfl
@[simp] theorem State.badAccess_snap : (s.badAccess).snap = s.snap := rfl
@[simp] theorem State.badAccess_cur : (s.badAccess).cur = s.cur := rfl
@[simp] theorem State.badAccess_unit : (s.badAccess).unit = s.unit := rfl
@[simp] theorem State.badAccess_tr : (s.badAccess).tr = s.tr := rfl
@[simp] theorem State.badAccess_td : (s.badAccess).td = s.td := rfl
@[simp] theorem State.badAccess_stage : (s.badAccess).stage = s.stage := rfl
@[simp] theorem State.badAccess_link : (s.badAccess).link = s.link := rfl
@[simp] theorem State.badAccess_time : (s.badAccess).time = s.time := rfl
@[simp] theorem State.badAccess_rdata : (s.badAccess).rdata = s.rdata := rfl
@[simp] theorem State.badAccess_draws : (s.badAccess).draws = s.draws := rfl
@[simp] theorem State.badAccess_inputs : (s.badAccess).inputs = s.inputs := rfl

@[simp] theorem State.busyWrite_cmd : (s.busyWrite).cmd = s.cmd := rfl
@[simp] theorem State.busyWrite_arg : (s.busyWrite).arg = s.arg := rfl
@[simp] theorem State.busyWrite_status : (s.busyWrite).status = s.status := rfl
@[simp] theorem State.busyWrite_result : (s.busyWrite).result = s.result := rfl
@[simp] theorem State.busyWrite_resultWritten : (s.busyWrite).resultWritten = s.resultWritten := rfl
@[simp] theorem State.busyWrite_fault : (s.busyWrite).fault = { s.fault with busyWrite := true } := rfl
@[simp] theorem State.busyWrite_session : (s.busyWrite).session = s.session := rfl
@[simp] theorem State.busyWrite_cfg : (s.busyWrite).cfg = s.cfg := rfl
@[simp] theorem State.busyWrite_bufLen : (s.busyWrite).bufLen = s.bufLen := rfl
@[simp] theorem State.busyWrite_txLen : (s.busyWrite).txLen = s.txLen := rfl
@[simp] theorem State.busyWrite_rxCount : (s.busyWrite).rxCount = s.rxCount := rfl
@[simp] theorem State.busyWrite_seq : (s.busyWrite).seq = s.seq := rfl
@[simp] theorem State.busyWrite_buf : (s.busyWrite).buf = s.buf := rfl
@[simp] theorem State.busyWrite_wbuf : (s.busyWrite).wbuf = s.wbuf := rfl
@[simp] theorem State.busyWrite_txbuf : (s.busyWrite).txbuf = s.txbuf := rfl
@[simp] theorem State.busyWrite_rxbuf : (s.busyWrite).rxbuf = s.rxbuf := rfl
@[simp] theorem State.busyWrite_vr : (s.busyWrite).vr = s.vr := rfl
@[simp] theorem State.busyWrite_snap : (s.busyWrite).snap = s.snap := rfl
@[simp] theorem State.busyWrite_cur : (s.busyWrite).cur = s.cur := rfl
@[simp] theorem State.busyWrite_unit : (s.busyWrite).unit = s.unit := rfl
@[simp] theorem State.busyWrite_tr : (s.busyWrite).tr = s.tr := rfl
@[simp] theorem State.busyWrite_td : (s.busyWrite).td = s.td := rfl
@[simp] theorem State.busyWrite_stage : (s.busyWrite).stage = s.stage := rfl
@[simp] theorem State.busyWrite_link : (s.busyWrite).link = s.link := rfl
@[simp] theorem State.busyWrite_time : (s.busyWrite).time = s.time := rfl
@[simp] theorem State.busyWrite_rdata : (s.busyWrite).rdata = s.rdata := rfl
@[simp] theorem State.busyWrite_draws : (s.busyWrite).draws = s.draws := rfl
@[simp] theorem State.busyWrite_inputs : (s.busyWrite).inputs = s.inputs := rfl

@[simp] theorem State.cmdOverrun_cmd : (s.cmdOverrun).cmd = s.cmd := rfl
@[simp] theorem State.cmdOverrun_arg : (s.cmdOverrun).arg = s.arg := rfl
@[simp] theorem State.cmdOverrun_status : (s.cmdOverrun).status = s.status := rfl
@[simp] theorem State.cmdOverrun_result : (s.cmdOverrun).result = s.result := rfl
@[simp] theorem State.cmdOverrun_resultWritten : (s.cmdOverrun).resultWritten = s.resultWritten := rfl
@[simp] theorem State.cmdOverrun_fault : (s.cmdOverrun).fault = { s.fault with cmdOverrun := true } := rfl
@[simp] theorem State.cmdOverrun_session : (s.cmdOverrun).session = s.session := rfl
@[simp] theorem State.cmdOverrun_cfg : (s.cmdOverrun).cfg = s.cfg := rfl
@[simp] theorem State.cmdOverrun_bufLen : (s.cmdOverrun).bufLen = s.bufLen := rfl
@[simp] theorem State.cmdOverrun_txLen : (s.cmdOverrun).txLen = s.txLen := rfl
@[simp] theorem State.cmdOverrun_rxCount : (s.cmdOverrun).rxCount = s.rxCount := rfl
@[simp] theorem State.cmdOverrun_seq : (s.cmdOverrun).seq = s.seq := rfl
@[simp] theorem State.cmdOverrun_buf : (s.cmdOverrun).buf = s.buf := rfl
@[simp] theorem State.cmdOverrun_wbuf : (s.cmdOverrun).wbuf = s.wbuf := rfl
@[simp] theorem State.cmdOverrun_txbuf : (s.cmdOverrun).txbuf = s.txbuf := rfl
@[simp] theorem State.cmdOverrun_rxbuf : (s.cmdOverrun).rxbuf = s.rxbuf := rfl
@[simp] theorem State.cmdOverrun_vr : (s.cmdOverrun).vr = s.vr := rfl
@[simp] theorem State.cmdOverrun_snap : (s.cmdOverrun).snap = s.snap := rfl
@[simp] theorem State.cmdOverrun_cur : (s.cmdOverrun).cur = s.cur := rfl
@[simp] theorem State.cmdOverrun_unit : (s.cmdOverrun).unit = s.unit := rfl
@[simp] theorem State.cmdOverrun_tr : (s.cmdOverrun).tr = s.tr := rfl
@[simp] theorem State.cmdOverrun_td : (s.cmdOverrun).td = s.td := rfl
@[simp] theorem State.cmdOverrun_stage : (s.cmdOverrun).stage = s.stage := rfl
@[simp] theorem State.cmdOverrun_link : (s.cmdOverrun).link = s.link := rfl
@[simp] theorem State.cmdOverrun_time : (s.cmdOverrun).time = s.time := rfl
@[simp] theorem State.cmdOverrun_rdata : (s.cmdOverrun).rdata = s.rdata := rfl
@[simp] theorem State.cmdOverrun_draws : (s.cmdOverrun).draws = s.draws := rfl
@[simp] theorem State.cmdOverrun_inputs : (s.cmdOverrun).inputs = s.inputs := rfl

@[simp] theorem State.nextTurn_cmd (rest : List Input) : (s.nextTurn rest).cmd = s.cmd := rfl
@[simp] theorem State.nextTurn_arg (rest : List Input) : (s.nextTurn rest).arg = s.arg := rfl
@[simp] theorem State.nextTurn_status (rest : List Input) : (s.nextTurn rest).status = s.status := rfl
@[simp] theorem State.nextTurn_result (rest : List Input) : (s.nextTurn rest).result = s.result := rfl
@[simp] theorem State.nextTurn_resultWritten (rest : List Input) :
    (s.nextTurn rest).resultWritten = s.resultWritten := rfl
@[simp] theorem State.nextTurn_fault (rest : List Input) : (s.nextTurn rest).fault = s.fault := rfl
@[simp] theorem State.nextTurn_session (rest : List Input) : (s.nextTurn rest).session = s.session := rfl
@[simp] theorem State.nextTurn_cfg (rest : List Input) : (s.nextTurn rest).cfg = s.cfg := rfl
@[simp] theorem State.nextTurn_bufLen (rest : List Input) : (s.nextTurn rest).bufLen = s.bufLen := rfl
@[simp] theorem State.nextTurn_txLen (rest : List Input) : (s.nextTurn rest).txLen = s.txLen := rfl
@[simp] theorem State.nextTurn_rxCount (rest : List Input) : (s.nextTurn rest).rxCount = s.rxCount := rfl
@[simp] theorem State.nextTurn_seq (rest : List Input) : (s.nextTurn rest).seq = s.seq := rfl
@[simp] theorem State.nextTurn_buf (rest : List Input) : (s.nextTurn rest).buf = s.buf := rfl
@[simp] theorem State.nextTurn_wbuf (rest : List Input) : (s.nextTurn rest).wbuf = s.wbuf := rfl
@[simp] theorem State.nextTurn_txbuf (rest : List Input) : (s.nextTurn rest).txbuf = s.txbuf := rfl
@[simp] theorem State.nextTurn_rxbuf (rest : List Input) : (s.nextTurn rest).rxbuf = s.rxbuf := rfl
@[simp] theorem State.nextTurn_vr (rest : List Input) : (s.nextTurn rest).vr = s.vr := rfl
@[simp] theorem State.nextTurn_snap (rest : List Input) : (s.nextTurn rest).snap = s.snap := rfl
@[simp] theorem State.nextTurn_cur (rest : List Input) : (s.nextTurn rest).cur = s.cur := rfl
@[simp] theorem State.nextTurn_unit (rest : List Input) : (s.nextTurn rest).unit = s.unit := rfl
@[simp] theorem State.nextTurn_tr (rest : List Input) : (s.nextTurn rest).tr = s.tr := rfl
@[simp] theorem State.nextTurn_td (rest : List Input) : (s.nextTurn rest).td = s.td := rfl
@[simp] theorem State.nextTurn_stage (rest : List Input) : (s.nextTurn rest).stage = s.stage := rfl
@[simp] theorem State.nextTurn_link (rest : List Input) : (s.nextTurn rest).link = s.link := rfl
@[simp] theorem State.nextTurn_time (rest : List Input) : (s.nextTurn rest).time = s.time := rfl
@[simp] theorem State.nextTurn_rdata (rest : List Input) : (s.nextTurn rest).rdata = s.rdata := rfl
@[simp] theorem State.nextTurn_draws (rest : List Input) : (s.nextTurn rest).draws = s.draws + 1 := rfl
@[simp] theorem State.nextTurn_inputs (rest : List Input) : (s.nextTurn rest).inputs = rest := rfl

end StateUpdates

end Sys2Proof.Machine
end

