-- ==== Sys2Proof/Laws/Store.lean ====
section
/-! SUPPORT. The laws of the sparse buffers: reading after writing, and the canonical form every operation keeps. -/

namespace Sys2Proof.Machine

variable {w : Nat}

@[simp] theorem cellGet_nil (a : Nat) : cellGet ([] : Store w) a = none := rfl

/-- A read after a write of one cell. -/
theorem cellGet_cellSet (a b : Nat) (v : BitVec w) (m : Store w) :
    cellGet (cellSet a v m) b = if b = a then some v else cellGet m b := by
  induction m with
  | nil => simp [cellSet, cellGet]
  | cons c m ih =>
    obtain ⟨k, u⟩ := c
    by_cases hlt : a < k
    · simp [cellSet, hlt, cellGet]
    · by_cases heq : a = k
      · subst heq
        simp only [cellSet, lt_irrefl, if_false, if_true, cellGet]
        split <;> simp_all
      · simp only [cellSet, hlt, heq, if_false, cellGet, ih]
        split
        · rename_i hb; subst hb; rw [if_neg (Ne.symm heq)]
        · rfl

@[simp] theorem cellGet_cellSet_self (a : Nat) (v : BitVec w) (m : Store w) :
    cellGet (cellSet a v m) a = some v := by simp [cellGet_cellSet]

theorem cellGet_cellSet_other {a b : Nat} (h : b ≠ a) (v : BitVec w) (m : Store w) :
    cellGet (cellSet a v m) b = cellGet m b := by simp [cellGet_cellSet, h]

/-- A read outside the cells written. -/
theorem cellGet_cellsWrite_outside (vs : List (BitVec w)) :
    ∀ (a b : Nat) (m : Store w), b < a ∨ a + vs.length ≤ b → cellGet (cellsWrite a vs m) b = cellGet m b := by
  induction vs with
  | nil => intros; rfl
  | cons v vs ih =>
    intro a b m h
    simp only [List.length_cons] at h
    rw [cellsWrite, ih _ _ _ (by omega), cellGet_cellSet_other (by omega)]

/-- A read of one of the cells written. -/
theorem cellGet_cellsWrite_inside (vs : List (BitVec w)) :
    ∀ (a i : Nat) (m : Store w) (h : i < vs.length), cellGet (cellsWrite a vs m) (a + i) = some vs[i] := by
  induction vs with
  | nil => intro a i m h; simp at h
  | cons v vs ih =>
    intro a i m h
    cases i with
    | zero => rw [cellsWrite, cellGet_cellsWrite_outside _ _ _ _ (by omega)]; simp
    | succ i =>
      have h' : i < vs.length := by simpa using h
      have := ih (a + 1) i (cellSet a v m) h'
      rw [cellsWrite, show a + (i + 1) = a + 1 + i by omega, this]
      simp

@[simp] theorem cellsRead_length (m : Store w) (free : Nat → BitVec w) (n : Nat) :
    (cellsRead m free n).length = n := by simp [cellsRead]

@[simp] theorem cellsRead_getElem (m : Store w) (free : Nat → BitVec w) (n i : Nat) (h : i < (cellsRead m free n).length) :
    (cellsRead m free n)[i] = (cellGet m i).getD (free i) := by simp [cellsRead]

/-- A range whose cells have all been written reads as what they hold, whatever the free values. -/
theorem cellsRead_eq_of_hold (m : Store w) (free : Nat → BitVec w) (vs : List (BitVec w))
    (h : ∀ i, (hi : i < vs.length) → cellGet m i = some vs[i]) : cellsRead m free vs.length = vs := by
  apply List.ext_getElem
  · simp
  · intro i h₁ h₂
    simp [h i h₂]

/-! ### The canonical form -/

theorem Store.wf_nil (cap : Nat) : Store.wf cap ([] : Store w) := by simp [Store.wf]

theorem mem_cellSet {a : Nat} {v : BitVec w} {m : Store w} {c : Nat × BitVec w} (h : c ∈ cellSet a v m) :
    c = (a, v) ∨ c ∈ m := by
  induction m with
  | nil => simpa [cellSet] using h
  | cons d m ih =>
    obtain ⟨k, u⟩ := d
    simp only [cellSet] at h
    split at h
    · simpa using h
    · split at h
      · rcases List.mem_cons.mp h with h | h
        · exact .inl h
        · exact .inr (List.mem_cons_of_mem _ h)
      · rcases List.mem_cons.mp h with h | h
        · exact .inr (h ▸ List.mem_cons_self)
        · rcases ih h with h | h
          · exact .inl h
          · exact .inr (List.mem_cons_of_mem _ h)

theorem cellSet_wf {cap a : Nat} (v : BitVec w) {m : Store w} (ha : a < cap) (h : Store.wf cap m) :
    Store.wf cap (cellSet a v m) := by
  refine ⟨?_, fun c hc => ?_⟩
  · obtain ⟨hp, -⟩ := h
    induction m with
    | nil => simp [cellSet]
    | cons d m ih =>
      obtain ⟨k, u⟩ := d
      rw [List.pairwise_cons] at hp
      obtain ⟨hk, hp⟩ := hp
      simp only [cellSet]
      split
      · rename_i hlt
        rw [List.pairwise_cons, List.pairwise_cons]
        refine ⟨fun x hx => ?_, hk, hp⟩
        rcases List.mem_cons.mp hx with rfl | hx
        · exact hlt
        · exact lt_trans hlt (hk x hx)
      · split
        · rename_i _ heq
          subst heq
          exact List.pairwise_cons.mpr ⟨hk, hp⟩
        · refine List.pairwise_cons.mpr ⟨fun x hx => ?_, ih hp⟩
          rcases mem_cellSet hx with rfl | hx
          · show k < a; omega
          · exact hk x hx
  · rcases mem_cellSet hc with rfl | hc
    · exact ha
    · exact h.2 c hc

theorem cellsWrite_wf {cap : Nat} (vs : List (BitVec w)) :
    ∀ {a : Nat} {m : Store w}, a + vs.length ≤ cap → Store.wf cap m → Store.wf cap (cellsWrite a vs m) := by
  induction vs with
  | nil => intro a m _ h; exact h
  | cons v vs ih =>
    intro a m ha h
    simp only [List.length_cons] at ha
    exact ih (by omega) (cellSet_wf v (by omega) h)

end Sys2Proof.Machine
end

