-- ==== Sys2Proof/Laws/Ops.lean ====
section
/-! SUPPORT. For each shared operation, once, everything it can do. -/

namespace Sys2Proof.Machine

variable (s : State)

@[simp] theorem State.keep_eq : s.keep = s := rfl

/-- `end_fail` of a command without an `on_fail` of its own. -/
theorem State.endFail_keep (e : CmdError) (x : Byte) :
    s.endFail State.keep e x =
      { s with stage := [], status := { s.status.idled.raised e with excCode := x } } := rfl

/-- `end_fail` of READ_SNAPSHOT. -/
theorem State.endFail_snapOffline (e : CmdError) (x : Byte) :
    s.endFail State.snapOffline e x =
      { s with snap := { s.snap with online := false }, stage := []
               status := { s.status.idled.raised e with excCode := x } } := rfl

/-- Starting a transaction: the request is loaded, or the stream is not open. -/
theorem State.startTxn_cases (f : State → State) (k : Nat) (d : TxnDesc) :
    (s.link.isOpen = true ∧ s.startTxn f k d = s.loadTxn k d) ∨
    (s.link.isOpen = false ∧ s.startTxn f k d = (s.atTxn k).endFail f .notOpen 0) := by
  unfold State.startTxn
  cases h : s.link.isOpen <;> simp

/-- Beginning a command with at least one transaction. -/
theorem State.begin_cons (f : State → State) (d : TxnDesc) (tds : List TxnDesc) :
    s.begin f (d :: tds) =
      { s with td := d :: tds, seq := { s.seq with total := BitVec.ofNat 8 (tds.length + 1) } }.startTxn f 0 d := rfl

/-- Accepting a device-level command: an argument error, no session unit, or its first transaction. -/
theorem State.devAccept_cases (f : State → State) (check : Except CmdError Unit) (tds : Byte → List TxnDesc) :
    (∃ e, check = .error e ∧ s.devAccept f check tds = s.raise e) ∨
    (check = .ok () ∧ s.session.valid = false ∧ s.devAccept f check tds = s.raise .sessionUnitUnset) ∨
    (check = .ok () ∧ s.session.valid = true ∧
      s.devAccept f check tds = { s with unit := s.session.unit }.begin f (tds s.session.unit)) := by
  cases check with
  | error e => exact .inl ⟨e, rfl, rfl⟩
  | ok a =>
    cases h : s.session.valid
    · exact .inr (.inl ⟨rfl, rfl, by simp [State.devAccept, h]⟩)
    · exact .inr (.inr ⟨rfl, rfl, by simp [State.devAccept, h]⟩)

/-- Accepting a single-register write: an argument error, no session unit, or its transaction. -/
theorem State.writeAccept_cases (checked : Except CmdError Word) (addr : Word) :
    (∃ e, checked = .error e ∧ s.writeAccept checked addr = s.raise e) ∨
    (∃ v, checked = .ok v ∧ s.session.valid = false ∧ s.writeAccept checked addr = s.raise .sessionUnitUnset) ∨
    (∃ v, checked = .ok v ∧ s.session.valid = true ∧
      s.writeAccept checked addr =
        { s with unit := s.session.unit }.begin State.keep [writeDesc s.session.unit addr [v]]) := by
  cases checked with
  | error e => exact .inl ⟨e, rfl, rfl⟩
  | ok v =>
    cases h : s.session.valid
    · exact .inr (.inl ⟨v, rfl, rfl, by simp [State.writeAccept, State.devAccept, h]⟩)
    · exact .inr (.inr ⟨v, rfl, rfl, by simp [State.writeAccept, State.devAccept, h]⟩)

/-- The SENDING step: the request goes out and polling begins, or the send is refused. -/
theorem State.sendStep_cases (frame : List Byte) :
    (s.link.isOpen = true ∧ s.link.refuses = false ∧
      s.sendStep frame =
        { s with
          link := { s.link with txq := frame, rxq := [], cut := false }
          tr := { s.tr with r := s.cfg.pollRetries }
          status := { s.status with retriesLeft := s.cfg.pollRetries, state := .awaiting } }) ∨
    ((s.link.isOpen = false ∨ s.link.refuses = true) ∧
      s.sendStep frame =
        { s with link := { s.link with txq := [], rxq := [] } }.endFail State.onFailRunning .sendFailed 0) := by
  cases ho : s.link.isOpen <;> cases hr : s.link.refuses <;>
    simp [State.sendStep, Link.discard, Link.send, ho, hr]

/-- Bytes that reach the link: RXQ grows by them, or the stream is cut and nothing changes. -/
theorem State.receive_cases (bytes : List Byte) :
    (s.isCut = false ∧ s.receive bytes = { s with link := { s.link with rxq := s.link.rxq ++ bytes } }) ∨
    (s.isCut = true ∧ s.receive bytes = s) := by
  cases h : s.isCut <;> simp [State.receive, h]

/-- A change of OPEN: the stream closes while the block polls and is cut, or OPEN alone changes. -/
theorem State.changeOpen_cases (o : Bool) :
    (o = false ∧ s.status.state = .awaiting ∧
      s.changeOpen o = { s with link := { s.link with isOpen := false, cut := true } }) ∨
    ((o = true ∨ s.status.state ≠ .awaiting) ∧
      s.changeOpen o = { s with link := { s.link with isOpen := o } }) := by
  by_cases h : o = false ∧ s.status.state = .awaiting
  · obtain ⟨rfl, hs⟩ := h
    exact .inl ⟨rfl, hs, by simp [State.changeOpen, hs]⟩
  · refine .inr ⟨?_, by simp only [State.changeOpen, if_neg h]⟩
    cases o
    · exact .inr fun hs => h ⟨rfl, hs⟩
    · exact .inl rfl

/-- What a poll collects: bytes from the front of RXQ, in order, and no more than needed. -/
theorem collect_split (need : List Byte → Nat) : ∀ (rx q : List Byte),
    ∃ taken, (collect need rx q).1 = rx ++ taken ∧ q = taken ++ (collect need rx q).2 := by
  intro rx q
  induction q generalizing rx with
  | nil => exact ⟨[], by simp [collect]⟩
  | cons b q ih =>
    unfold collect
    split
    · obtain ⟨t, h₁, h₂⟩ := ih (rx ++ [b])
      exact ⟨b :: t, by simpa using h₁, by simpa using h₂⟩
    · exact ⟨[], by simp⟩

/-- A poll stops because enough is collected, or because RXQ is empty. -/
theorem collect_stops (need : List Byte → Nat) : ∀ (rx q : List Byte),
    need (collect need rx q).1 ≤ (collect need rx q).1.length ∨ (collect need rx q).2 = [] := by
  intro rx q
  induction q generalizing rx with
  | nil => exact .inr rfl
  | cons b q ih =>
    unfold collect
    split
    · exact ih _
    · exact .inl (by simp; omega)

/-- A poll: the reply is complete, or it was the last poll, or one fewer is left. -/
theorem State.pollStep_cases :
    (s.takeBytes.rxCount.toNat = s.tr.need s.takeBytes.rxBytes ∧
      s.pollStep = { s.takeBytes with
        status := { s.status with state := .validating, retriesLeft := 0 } }) ∨
    (s.takeBytes.rxCount.toNat ≠ s.tr.need s.takeBytes.rxBytes ∧ s.tr.r = 0 ∧
      s.pollStep = s.takeBytes.endFail State.onFailRunning .replyIncomplete 0) ∨
    (s.takeBytes.rxCount.toNat ≠ s.tr.need s.takeBytes.rxBytes ∧ s.tr.r ≠ 0 ∧
      s.pollStep = { s.takeBytes with
        tr := { s.tr with r := s.tr.r - 1 }
        status := { s.status with retriesLeft := s.tr.r - 1 } }) := by
  have ht : s.takeBytes.tr = s.tr := rfl
  have hs : s.takeBytes.status = s.status := rfl
  unfold State.pollStep
  simp only [ht, hs]
  by_cases h : s.takeBytes.rxCount.toNat = s.tr.need s.takeBytes.rxBytes
  · exact .inl ⟨h, if_pos h⟩
  · refine .inr ?_
    rw [if_neg h]
    by_cases hr : s.tr.r = 0
    · exact .inl ⟨h, hr, if_pos hr⟩
    · exact .inr ⟨h, hr, if_neg hr⟩

/-- The VALIDATING step: a failed check ends the command; else the next transaction starts, or the command commits. -/
theorem State.validateStep_cases (rx : List Byte) :
    (∃ e x, s.tr.validate rx = .error (e, x) ∧ s.validateStep rx = s.endFail State.onFailRunning e x) ∨
    (∃ w d, s.tr.validate rx = .ok w ∧ s.td[s.seq.idx.toNat + 1]? = some d ∧
      s.validateStep rx =
        (s.stageWords s.seq.idx.toNat w).startTxn State.onFailRunning (s.seq.idx.toNat + 1) d) ∨
    (∃ w, s.tr.validate rx = .ok w ∧ s.td[s.seq.idx.toNat + 1]? = none ∧
      s.validateStep rx = (s.stageWords s.seq.idx.toNat w).commitRunning.endOk) := by
  cases hv : s.tr.validate rx with
  | error p => exact .inl ⟨p.1, p.2, rfl, by simp [State.validateStep, hv]⟩
  | ok w =>
    cases hd : s.td[s.seq.idx.toNat + 1]? with
    | some d => exact .inr (.inl ⟨w, d, rfl, rfl, by simp [State.validateStep, hv, State.stageWords, hd]⟩)
    | none => exact .inr (.inr ⟨w, rfl, rfl, by simp [State.validateStep, hv, State.stageWords, hd]⟩)

/-- A host write of a writable register: refused while BUSY, else done. -/
theorem State.writable_cases (t : State) :
    (s.status.busy = true ∧ s.writable t = s.busyWrite) ∨ (s.status.busy = false ∧ s.writable t = t) := by
  cases h : s.status.busy <;> simp [State.writable, h]

/-- The issue of a command: refused while BUSY, else accepted and run, or accepted and refused as unassigned. -/
theorem issue_cases (c : Reg) :
    (s.status.busy = true ∧ issue s c = .next s.cmdOverrun) ∨
    (∃ i, s.status.busy = false ∧ decodeCommand c s.arg = .ok i ∧ issue s c = exec i (s.accept c)) ∨
    (∃ e, s.status.busy = false ∧ decodeCommand c s.arg = .error e ∧
      issue s c = .next ((s.accept c).raise .unassignedOpcode)) := by
  cases hb : s.status.busy
  · cases hd : decodeCommand c s.arg with
    | ok i => exact .inr (.inl ⟨i, rfl, rfl, by simp [issue, hb, hd]⟩)
    | error e => exact .inr (.inr ⟨e, rfl, rfl, by simp [issue, hb, hd]⟩)
  · exact .inl ⟨rfl, by simp [issue, hb]⟩

/-- A block step on a frame: the instruction it decodes to, or the step for bytes that are no frame. -/
theorem runFrame_cases (frame : List Byte) (other : State) :
    (∃ i, decodeFrame frame = .ok i ∧ runFrame s frame other = exec i s) ∨
    (∃ e, decodeFrame frame = .error e ∧ runFrame s frame other = .next other) := by
  cases hd : decodeFrame frame with
  | ok i => exact .inl ⟨i, rfl, by simp [runFrame, hd]⟩
  | error e => exact .inr ⟨e, rfl, by simp [runFrame, hd]⟩

/-- Every meaning answers a next state: a command error is an outcome in STATUS, no stop (60_exceptions.md R256). -/
theorem exec_next (i : Instr) : ∃ t, exec i s = .next t := by
  cases i <;> exact ⟨_, rfl⟩

end Sys2Proof.Machine
end

