-- ==== Sys2Proof/Laws/PerInstr.lean ====
section
/-! SUPPORT. Per instruction: the code byte of its encoding (CMD[7:0] of a command, byte 1 of a frame) is the one that
spec/opcode_table.json gives its row. -/

namespace Sys2Proof.Laws

/-- The byte the opcode table's match and mask apply to. -/
def codeByte : Code → Option Byte
  | .command cmd _ => some (opcOf cmd)
  | .frame bytes => bytes[1]?

/-- The opcode table's match value of the instruction's row. -/
def rowByte : Instr → Byte
  | .crcCalc _ => 0x01
  | .crcVerify _ => 0x02
  | .crcAppend _ => 0x03
  | .frameReadReq _ _ _ => 0x10
  | .frameWriteReq _ _ _ => 0x11
  | .frameReadRsp _ _ => 0x12
  | .frameWriteRsp _ => 0x13
  | .readHolding _ _ _ => 0x14
  | .writeMultiple _ _ _ => 0x15
  | .voltDecode _ => 0x20
  | .voltEncode _ => 0x21
  | .thrDecode _ => 0x22
  | .thrEncode _ => 0x23
  | .baudDecode _ => 0x24
  | .baudEncode _ => 0x25
  | .maskDecode _ _ => 0x26
  | .textDecode _ => 0x27
  | .regLookup _ => 0x30
  | .readAllVoltages => 0x40
  | .readSingleVoltage _ => 0x41
  | .readSnapshot => 0x42
  | .writeDeviceAddress _ => 0x43
  | .writeBaudRate _ => 0x44
  | .writeIoDirection _ => 0x45
  | .writeIoValue _ => 0x46
  | .writeSetTemperature _ => 0x47
  | .writeDropThreshold _ _ => 0x48
  | .rtuReadHoldingRegisters _ _ _ => 0x03
  | .rtuReadException _ _ _ => 0x83
  | .rtuWriteMultipleRegisters _ _ _ => 0x10
  | .rtuWriteException _ _ _ => 0x90

namespace CodeByte

def Statement (i : Instr) : Prop := codeByte (encode i) = some (rowByte i)

theorem command (i : Instr) (opc a : Byte) (b : Word) (arg : Reg) (he : encode i = commandCode opc a b arg)
    (hr : rowByte i = opc) : Statement i := by simp [Statement, he, hr, commandCode, codeByte]

theorem crcCalc (n : Word) : Statement (.crcCalc n) := command _ _ _ _ _ rfl rfl
theorem crcVerify (n : Word) : Statement (.crcVerify n) := command _ _ _ _ _ rfl rfl
theorem crcAppend (n : Word) : Statement (.crcAppend n) := command _ _ _ _ _ rfl rfl
theorem frameReadReq (unit : Byte) (start count : Word) : Statement (.frameReadReq unit start count) := command _ _ _ _ _ rfl rfl
theorem frameWriteReq (unit : Byte) (start count : Word) : Statement (.frameWriteReq unit start count) := command _ _ _ _ _ rfl rfl
theorem frameReadRsp (unit : Byte) (count : Word) : Statement (.frameReadRsp unit count) := command _ _ _ _ _ rfl rfl
theorem frameWriteRsp (unit : Byte) : Statement (.frameWriteRsp unit) := command _ _ _ _ _ rfl rfl
theorem readHolding (unit : Byte) (start count : Word) : Statement (.readHolding unit start count) := command _ _ _ _ _ rfl rfl
theorem writeMultiple (unit : Byte) (start count : Word) : Statement (.writeMultiple unit start count) := command _ _ _ _ _ rfl rfl
theorem voltDecode (raw : Word) : Statement (.voltDecode raw) := command _ _ _ _ _ rfl rfl
theorem voltEncode (uv : Reg) : Statement (.voltEncode uv) := command _ _ _ _ _ rfl rfl
theorem thrDecode (raw : Word) : Statement (.thrDecode raw) := command _ _ _ _ _ rfl rfl
theorem thrEncode (uv : Reg) : Statement (.thrEncode uv) := command _ _ _ _ _ rfl rfl
theorem baudDecode (code : Word) : Statement (.baudDecode code) := command _ _ _ _ _ rfl rfl
theorem baudEncode (rate : Reg) : Statement (.baudEncode rate) := command _ _ _ _ _ rfl rfl
theorem maskDecode (high low : Word) : Statement (.maskDecode high low) := command _ _ _ _ _ rfl rfl
theorem textDecode (n : Byte) : Statement (.textDecode n) := command _ _ _ _ _ rfl rfl
theorem regLookup (id : Byte) : Statement (.regLookup id) := command _ _ _ _ _ rfl rfl
theorem readAllVoltages : Statement (.readAllVoltages) := command _ _ _ _ _ rfl rfl
theorem readSingleVoltage (channel : Byte) : Statement (.readSingleVoltage channel) := command _ _ _ _ _ rfl rfl
theorem readSnapshot : Statement (.readSnapshot) := command _ _ _ _ _ rfl rfl
theorem writeDeviceAddress (address : Word) : Statement (.writeDeviceAddress address) := command _ _ _ _ _ rfl rfl
theorem writeBaudRate (rate : Reg) : Statement (.writeBaudRate rate) := command _ _ _ _ _ rfl rfl
theorem writeIoDirection (value : Word) : Statement (.writeIoDirection value) := command _ _ _ _ _ rfl rfl
theorem writeIoValue (value : Word) : Statement (.writeIoValue value) := command _ _ _ _ _ rfl rfl
theorem writeSetTemperature (value : Word) : Statement (.writeSetTemperature value) := command _ _ _ _ _ rfl rfl
theorem writeDropThreshold (channel : Byte) (uv : Reg) : Statement (.writeDropThreshold channel uv) := command _ _ _ _ _ rfl rfl
theorem rtuReadHoldingRegisters (unit : Byte) (body : List Byte) (crc : Word) : Statement (.rtuReadHoldingRegisters unit body crc) := rfl
theorem rtuReadException (unit code : Byte) (crc : Word) : Statement (.rtuReadException unit code crc) := rfl
theorem rtuWriteMultipleRegisters (unit : Byte) (body : List Byte) (crc : Word) : Statement (.rtuWriteMultipleRegisters unit body crc) := rfl
theorem rtuWriteException (unit code : Byte) (crc : Word) : Statement (.rtuWriteException unit code crc) := rfl

end CodeByte

end Sys2Proof.Laws
end

