-- ==== Sys2Proof/Tests/Slice0.lean ====
section
/-! SUPPORT. The model's own tests. Expected values are those of spec/95_test_vectors.md (named by their ids) or
written out by hand from the rule a test's comment names. -/

open Sys2Proof Sys2Proof.Machine

namespace Sys2Proof.Tests

-- One theorem at a time: a kernel check each on its own thread can exhaust the threads.
set_option Elab.async false

/-! ### Decoding: the words of 30_encoding.md R82, the frames of R90 -/

/-- The instruction of a command pair, if any. -/
def cmd (c a : Reg) : Option Instr := (decode (.command c a)).toOption

/-- The instruction of a frame, if any. -/
def frm (bytes : List Byte) : Option Instr := (decode (.frame bytes)).toOption

-- CRC family; ARG[31:16] ignored (V-CRC-24).
theorem test_decode_crcCalc : cmd 0x00000001 0x00010006 = some (.crcCalc 6) := by decide
theorem test_decode_crcVerify : cmd 0x00000002 0x00000008 = some (.crcVerify 8) := by decide
theorem test_decode_crcAppend : cmd 0x00000003 0x00000006 = some (.crcAppend 6) := by decide
-- Frame family (V-FRM-2, V-FRM-4, V-FRM-10, V-FRM-22).
theorem test_decode_frameReadReq : cmd 0xFFFF0010 0x0000007F = some (.frameReadReq 0 0xFFFF 127) := by decide
theorem test_decode_frameWriteReq : cmd 0x00011111 0x00000002 = some (.frameWriteReq 0x11 1 2) := by decide
theorem test_decode_frameReadRsp : cmd 0x00000112 0x00000002 = some (.frameReadRsp 1 2) := by decide
theorem test_decode_frameWriteRsp : cmd 0x00000113 0x00000000 = some (.frameWriteRsp 1) := by decide
-- Transaction family (program P2; V-TXN-9).
theorem test_decode_readHolding : cmd 0x80100114 0x00000002 = some (.readHolding 1 0x8010 2) := by decide
theorem test_decode_writeMultiple : cmd 0x00011115 0x00000002 = some (.writeMultiple 0x11 1 2) := by decide
-- Codec family.
theorem test_decode_voltDecode : cmd 0x03E80020 0x00000000 = some (.voltDecode 0x03E8) := by decide
theorem test_decode_voltEncode : cmd 0x00000021 0x00030D40 = some (.voltEncode 200000) := by decide
theorem test_decode_thrDecode : cmd 0x04D20022 0x00000000 = some (.thrDecode 0x04D2) := by decide
theorem test_decode_thrEncode : cmd 0x00000023 0x00BC4B20 = some (.thrEncode 12340000) := by decide
theorem test_decode_baudDecode : cmd 0x00630024 0x00000000 = some (.baudDecode 99) := by decide
theorem test_decode_baudEncode : cmd 0x00000025 0x00003039 = some (.baudEncode 12345) := by decide
theorem test_decode_maskDecode : cmd 0x12340026 0x00005678 = some (.maskDecode 0x1234 0x5678) := by decide
theorem test_decode_textDecode : cmd 0x00008027 0x00000000 = some (.textDecode 128) := by decide
-- Device family (V-REG-4, V-DEV-1, V-DEV-3, program P4, V-DEV-6 to V-DEV-14).
theorem test_decode_regLookup : cmd 0x00000A30 0x00000000 = some (.regLookup 10) := by decide
theorem test_decode_readAllVoltages : cmd 0x00000040 0x00000000 = some .readAllVoltages := by decide
theorem test_decode_readSingleVoltage : cmd 0x00002041 0x00000000 = some (.readSingleVoltage 32) := by decide
theorem test_decode_readSnapshot : cmd 0x00000042 0x00000000 = some .readSnapshot := by decide
theorem test_decode_writeDeviceAddress : cmd 0x00800043 0x00000000 = some (.writeDeviceAddress 128) := by decide
theorem test_decode_writeBaudRate : cmd 0x00000044 0x00004B00 = some (.writeBaudRate 19200) := by decide
theorem test_decode_writeIoDirection : cmd 0x00FF0045 0x00000000 = some (.writeIoDirection 0xFF) := by decide
theorem test_decode_writeIoValue : cmd 0x00030046 0x00000000 = some (.writeIoValue 3) := by decide
theorem test_decode_writeSetTemperature : cmd 0x00190047 0x00000000 = some (.writeSetTemperature 25) := by decide
theorem test_decode_writeDropThreshold : cmd 0x00000348 0x00BC4B20 = some (.writeDropThreshold 3 12340000) := by decide
-- Wire family (R94, S8, V-DEV-14, V-FRM-24).
theorem test_decode_rtuRead : frm [0x01, 0x03, 0x80, 0x10, 0x00, 0x02, 0xEC, 0x0E] =
    some (.rtuReadHoldingRegisters 1 [0x80, 0x10, 0x00, 0x02] 0x0EEC) := by decide
theorem test_decode_rtuReadException : frm [0x01, 0x83, 0x02, 0xC0, 0xF1] =
    some (.rtuReadException 1 2 0xF1C0) := by decide
theorem test_decode_rtuWrite : frm [0x01, 0x10, 0x80, 0x52, 0x00, 0x01, 0x02, 0x04, 0xD2, 0xA8, 0xB7] =
    some (.rtuWriteMultipleRegisters 1 [0x80, 0x52, 0x00, 0x01, 0x02, 0x04, 0xD2] 0xB7A8) := by decide
theorem test_decode_rtuWriteException : frm [0x01, 0x90, 0x02, 0xCD, 0xC1] =
    some (.rtuWriteException 1 2 0xC1CD) := by decide

-- Refused by name: an unassigned OPC (V-ERR-1), a foreign function code (R93), a wrong length, a fragment.
theorem test_reject_opcode : decode (.command 0x00000004 0) = .error (.unassignedOpcode 4) := by decide
theorem test_reject_function : decode (.frame [1, 0x04, 0, 0, 0]) = .error (.unknownFunctionCode 4) := by decide
theorem test_reject_length : decode (.frame [1, 0x83, 2, 0xC0]) = .error (.badFrameLength 0x83 4) := by decide
theorem test_reject_short : decode (.frame [1, 0x03, 2]) = .error (.frameTooShort 3) := by decide

-- Table words (log 8): a command pair of 64 bits, a wire row of 8 bits.
theorem test_table_command : decodeTableWord 64 0x0000000280100114 = some (.readHolding 1 0x8010 2) := by decide
theorem test_table_wire : decodeTableWord 8 0x83 = some (.rtuReadException 0 0 0) := by decide

/-! ### WellFormed: one ill-formed term for each check -/

-- A 0x03 payload: an even length, a length below 3 that is odd, one word too many.
theorem test_illformed_read_even : (Instr.rtuReadHoldingRegisters 1 (List.replicate 6 0) 0).wf = false := by decide
theorem test_illformed_read_low : (Instr.rtuReadHoldingRegisters 1 [2] 0).wf = false := by decide
theorem test_illformed_read_high : (Instr.rtuReadHoldingRegisters 1 (List.replicate 257 0) 0).wf = false := by
  decide +kernel
-- A 0x10 payload: an even length, an odd length below 7, one word too many.
theorem test_illformed_write_even : (Instr.rtuWriteMultipleRegisters 1 (List.replicate 8 0) 0).wf = false := by decide
theorem test_illformed_write_low : (Instr.rtuWriteMultipleRegisters 1 (List.replicate 5 0) 0).wf = false := by decide
theorem test_illformed_write_high : (Instr.rtuWriteMultipleRegisters 1 (List.replicate 261 0) 0).wf = false := by
  decide +kernel

/-! ### One step of each instruction -/

/-- The state with bytes in BUF and BUF_LEN their number. -/
def withBuf (bytes : List Byte) (s : State := State.reset) : State :=
  { s with buf := cellsWrite (w := 8) 0 bytes [], bufLen := BitVec.ofNat 9 bytes.length }

/-- The state with words in WBUF. -/
def withWbuf (ws : List Word) (s : State := State.reset) : State := { s with wbuf := cellsWrite 0 ws [] }

/-- After reset with the stream open. -/
def opened : State := { State.reset with link := { State.reset.link with isOpen := true } }

/-- With the stream open and a session unit. -/
def session (u : Byte) : State := { opened with session := { unit := u, valid := true } }

/-- A field of the next state. -/
def after {α : Type} (o : Host.Outcome State Fault Refusal) (f : State → α) : Option α :=
  match o with
  | .next s => some (f s)
  | .fault _ | .refused _ => none

/-- STATUS, RESULT. -/
def outcome (s : State) : Reg × Reg := (s.status.word, s.result)

/-- STATUS and the request bytes. -/
def sent (s : State) : Reg × List Byte := (s.status.word, s.txBytes)

-- V-CRC-10, V-CRC-12.
theorem test_crcCalc : after (exec (.crcCalc 6) (withBuf [1, 3, 0, 0, 0, 0x0A])) outcome =
    some (0x60, 0xCDC5) := by decide +kernel
theorem test_crcCalc_long : after (exec (.crcCalc 5) (withBuf [1, 2, 3, 4])) outcome =
    some (0x1820, 0) := by decide +kernel
-- V-CRC-13, V-CRC-18.
theorem test_crcVerify : after (exec (.crcVerify 8) (withBuf [1, 3, 0, 0, 0, 0x0A, 0xC5, 0xCD])) outcome =
    some (0x60, 1) := by decide +kernel
theorem test_crcVerify_swapped : after (exec (.crcVerify 8) (withBuf [1, 3, 0, 0, 0, 0x0A, 0xCD, 0xC5])) outcome =
    some (0x60, 0) := by decide +kernel
-- V-CRC-19, V-CRC-20.
theorem test_crcAppend : after (exec (.crcAppend 6) (withBuf [1, 3, 0x80, 0x10, 0, 2]))
    (fun s => (outcome s, s.bufBytes 8, s.bufLen)) =
    some ((0x60, 0x0EEC), [1, 3, 0x80, 0x10, 0, 2, 0xEC, 0x0E], 8) := by decide +kernel
theorem test_crcAppend_inside : after (exec (.crcAppend 0) (withBuf [1, 2, 3, 4]))
    (fun s => (outcome s, s.bufBytes 4, s.bufLen)) = some ((0x60, 0xFFFF), [0xFF, 0xFF, 3, 4], 2) := by decide +kernel
-- V-FRM-2, V-FRM-7.
theorem test_frameReadReq : after (exec (.frameReadReq 0 0xFFFF 127) State.reset)
    (fun s => (outcome s, s.bufBytes 8, s.bufLen)) =
    some ((0x60, 8), [0, 3, 0xFF, 0xFF, 0, 0x7F, 0x05, 0xDF], 8) := by decide +kernel
theorem test_frameReadReq_count : after (exec (.frameReadReq 1 0x8010 128) State.reset) outcome =
    some (0x4620, 0) := by decide +kernel
-- V-FRM-4, V-FRM-9.
theorem test_frameWriteReq : after (exec (.frameWriteReq 0x11 1 2) (withWbuf [0x1234, 0xABCD]))
    (fun s => (outcome s, s.bufBytes 13)) =
    some ((0x60, 13), [0x11, 0x10, 0, 1, 0, 2, 4, 0x12, 0x34, 0xAB, 0xCD, 0x9C, 0xB0]) := by decide +kernel
theorem test_frameWriteReq_count : after (exec (.frameWriteReq 1 0x8052 0) State.reset) outcome =
    some (0x4620, 0) := by decide +kernel
-- V-FRM-20, V-FRM-13.
theorem test_frameReadRsp : after
    (exec (.frameReadRsp 1 2) (withBuf [1, 3, 4, 3, 0xE8, 0, 0xC8, 0x7B, 0xD5, 0xAA, 0xBB]))
    (fun s => (outcome s, s.wbufWords 2)) = some ((0x60, 2), [0x03E8, 0x00C8]) := by decide +kernel
theorem test_frameReadRsp_exception : after (exec (.frameReadRsp 1 2) (withBuf [1, 0x83, 2, 0xC0, 0xF1])) outcome =
    some (0x00021420, 0) := by decide +kernel
-- V-FRM-23, V-FRM-28.
theorem test_frameWriteRsp : after (exec (.frameWriteRsp 1) (withBuf [1, 0x10, 0x12, 0x34, 0, 7, 0xC5, 0x7D])) outcome =
    some (0x60, 1) := by decide +kernel
theorem test_frameWriteRsp_function : after
    (exec (.frameWriteRsp 1) (withBuf [1, 3, 0x80, 0x52, 0, 1, 0x0C, 0x1B])) outcome =
    some (0x2320, 0) := by decide +kernel
-- V-TXN-1 and V-TXN-6, at accept.
theorem test_readHolding : after (exec (.readHolding 1 0x8010 2) opened) sent =
    some (0x11, [1, 3, 0x80, 0x10, 0, 2, 0xEC, 0x0E]) := by decide +kernel
theorem test_readHolding_closed : after (exec (.readHolding 1 0x8010 2) State.reset) (fun s => (s.status.word, s.txLen)) =
    some (0x1120, 0) := by decide +kernel
-- V-TXN-9, at accept.
theorem test_writeMultiple : after (exec (.writeMultiple 0x11 1 2) (withWbuf [0x1234, 0xABCD] opened)) sent =
    some (0x11, [0x11, 0x10, 0, 1, 0, 2, 4, 0x12, 0x34, 0xAB, 0xCD, 0x9C, 0xB0]) := by decide +kernel
-- 2.4: the boundary of the voltage codec.
theorem test_voltDecode_boundary : after (exec (.voltDecode 0x8000) State.reset) outcome =
    some (0x60, 32768000) := by decide +kernel
theorem test_voltDecode_upper : after (exec (.voltDecode 0x8001) State.reset) outcome = some (0x60, 10000) := by
  decide +kernel
theorem test_voltEncode_upper : after (exec (.voltEncode 32768001) State.reset) outcome =
    some (0x60, 0x8CCD) := by decide +kernel
theorem test_voltEncode_range : after (exec (.voltEncode 327675000) State.reset) outcome =
    some (0x5620, 0) := by decide +kernel
theorem test_thrDecode : after (exec (.thrDecode 0x8001) State.reset) outcome = some (0x60, 327690000) := by
  decide +kernel
theorem test_thrEncode_half : after (exec (.thrEncode 15000) State.reset) outcome = some (0x60, 2) := by decide +kernel
theorem test_thrEncode_range : after (exec (.thrEncode 655355000) State.reset) outcome =
    some (0x5620, 0) := by decide +kernel
-- S5.
theorem test_baudDecode_open : after (exec (.baudDecode 99) State.reset) outcome = some (0x60, 57600) := by
  decide +kernel
theorem test_baudEncode : after (exec (.baudEncode 38400) State.reset) outcome = some (0x60, 2) := by decide +kernel
theorem test_baudEncode_unsupported : after (exec (.baudEncode 12345) State.reset) outcome =
    some (0x1720, 0) := by decide +kernel
theorem test_maskDecode : after (exec (.maskDecode 0x1234 0x5678) State.reset) outcome =
    some (0x60, 0x12345678) := by decide +kernel
-- 2.4: a zero byte at an odd index does not end a text; an all-ones block sets ALL_FF.
theorem test_textDecode : after (exec (.textDecode 3) (withWbuf [0x0041, 0x4200, 0x0043]))
    (fun s => (outcome s, s.bufBytes 6)) = some ((0x60, 6), [0, 0x41, 0x42, 0, 0, 0x43]) := by decide +kernel
theorem test_textDecode_unset : after (exec (.textDecode 2) (withWbuf [0xFFFF, 0xFFFF])) outcome =
    some (0xE0, 4) := by decide +kernel
-- V-REG-6, V-REG-7.
theorem test_regLookup : after (exec (.regLookup 16) State.reset) outcome = some (0x60, 0x001F8820) := by decide +kernel
theorem test_regLookup_range : after (exec (.regLookup 17) State.reset) outcome = some (0x6620, 0) := by decide +kernel
-- V-DEV-1, V-DEV-3, V-DEV-20, V-DEV-23.
theorem test_readAllVoltages : after (exec .readAllVoltages (session 1)) sent =
    some (0x11, [1, 3, 0x80, 0x10, 0, 0x20, 0x6C, 0x17]) := by decide +kernel
theorem test_readSingleVoltage : after (exec (.readSingleVoltage 32) (session 1)) sent =
    some (0x11, [1, 3, 0x80, 0x2F, 0, 1, 0x9C, 0x03]) := by decide +kernel
theorem test_readSingleVoltage_order : after (exec (.readSingleVoltage 0) opened) outcome =
    some (0x1620, 0) := by decide +kernel
theorem test_readSnapshot : after (exec .readSnapshot (session 1)) (fun s => (sent s, s.seq.word)) =
    some ((0x11, [1, 3, 0x80, 0, 0, 1, 0xAD, 0xCA]), 0x0C00) := by decide +kernel
-- V-DEV-6, V-DEV-5, V-DEV-10 to V-DEV-13.
theorem test_writeDeviceAddress : after (exec (.writeDeviceAddress 128) (session 1)) sent =
    some (0x11, [1, 0x10, 0x80, 0, 0, 1, 2, 0, 0x80, 0x26, 0x38]) := by decide +kernel
theorem test_writeDeviceAddress_range : after (exec (.writeDeviceAddress 129) (session 1)) outcome =
    some (0x2620, 0) := by decide +kernel
theorem test_writeBaudRate : after (exec (.writeBaudRate 19200) (session 1)) sent =
    some (0x11, [1, 0x10, 0x80, 2, 0, 1, 2, 0, 1, 0xE7, 0xBA]) := by decide +kernel
theorem test_writeIoDirection : after (exec (.writeIoDirection 0xFF) (session 1)) sent =
    some (0x11, [1, 0x10, 0x80, 3, 0, 1, 2, 0, 0xFF, 0x67, 0xEB]) := by decide +kernel
theorem test_writeIoValue : after (exec (.writeIoValue 3) (session 1)) sent =
    some (0x11, [1, 0x10, 0x80, 4, 0, 1, 2, 0, 3, 0x66, 0x1D]) := by decide +kernel
theorem test_writeSetTemperature : after (exec (.writeSetTemperature 25) (session 1)) sent =
    some (0x11, [1, 0x10, 0x80, 7, 0, 1, 2, 0, 0x19, 0xE7, 0xE5]) := by decide +kernel
-- V-DEV-15, V-DEV-18.
theorem test_writeDropThreshold : after (exec (.writeDropThreshold 32 655354999) (session 1)) sent =
    some (0x11, [1, 0x10, 0x80, 0x6F, 0, 1, 2, 0xFF, 0xFF, 0x2F, 0x77]) := by decide +kernel
theorem test_writeDropThreshold_order : after (exec (.writeDropThreshold 0 655355000) (session 1)) outcome =
    some (0x1620, 0) := by decide +kernel

/-! ### Transactions in flight -/

/-- A READ_HOLDING of 2 registers at 0x8010 of unit 1. -/
def readTwo : TxnDesc := { fc := 0x03, unit := 1, start := 0x8010, count := 2, values := [] }

/-- A WRITE_MULTIPLE of one register at 0x8052 of unit 1 (V-TXN-10). -/
def writeOne : TxnDesc := { fc := 0x10, unit := 1, start := 0x8052, count := 1, values := [0x04D2] }

/-- The stream is open and transaction `k` of `td`, descriptor `d`, is in SENDING. -/
def sending (opc a : Byte) (b : Word) (arg : Reg) (td : List TxnDesc) (k : Nat) (d : TxnDesc) : State :=
  { session 1 with
    cur := { opc := opc, a := a, b := b, arg := arg }
    unit := 1
    td := td
    seq := { idx := BitVec.ofNat 8 k, total := BitVec.ofNat 8 td.length }
    tr := { fc := d.fc, unit := d.unit, start := d.start, count := d.count, r := 0 }
    txbuf := cellsWrite (w := 8) 0 d.frame []
    txLen := BitVec.ofNat 9 d.frame.length
    status := { Status.reset with busy := true, state := .sending } }

/-- The same with the bytes `rx` collected and `r` polls left. -/
def awaiting (s : State) (rx : List Byte) (r : Byte) : State :=
  { s with
    rxbuf := cellsWrite (w := 8) 0 rx []
    rxCount := BitVec.ofNat 9 rx.length
    tr := { s.tr with r := r }
    status := { s.status with state := .awaiting, retriesLeft := r } }

/-- The same with the whole reply `rx` collected. -/
def validating (s : State) (rx : List Byte) : State :=
  { s with
    rxbuf := cellsWrite (w := 8) 0 rx []
    rxCount := BitVec.ofNat 9 rx.length
    status := { s.status with state := .validating } }

/-- READ_HOLDING of program P2 in SENDING. -/
def reading : State := sending 0x14 1 0x8010 2 [readTwo] 0 readTwo

/-- WRITE_MULTIPLE of V-TXN-10 in SENDING. -/
def writing : State := sending 0x15 1 0x8052 1 [writeOne] 0 writeOne

/-- READ_SNAPSHOT of program P4, transaction 0, in SENDING. -/
def snapshot : State := sending 0x42 0 0 0 (snapshotDescs 1) 0 (readDesc 1 0x8000 1)

/-- The replies of program P2, S8 and V-TXN-10. -/
def replyTwo : List Byte := [1, 3, 4, 3, 0xE8, 0, 0xC8, 0x7B, 0xD5]
def replyException : List Byte := [1, 0x83, 2, 0xC0, 0xF1]
def replyAck : List Byte := [1, 0x10, 0x80, 0x52, 0, 1, 0x89, 0xD8]

-- Program P2, after SENDING; V-TXN-3, poll 1; program P2, after the poll; V-TXN-3, poll 11.
theorem test_sending : after (step reading) (fun s => (s.status.word, s.link.txq)) =
    some (0x0A000012, [1, 3, 0x80, 0x10, 0, 2, 0xEC, 0x0E]) := by decide +kernel
theorem test_poll : after (step { awaiting reading [] 10 with
      link := { isOpen := true, refuses := false, txq := [], rxq := [1, 3, 4, 3] } })
    (fun s => (s.status.word, s.rxBytes)) = some (0x09000012, [1, 3, 4, 3]) := by decide +kernel
theorem test_poll_complete : after (step { awaiting reading [1, 3] 10 with
      link := { isOpen := true, refuses := false, txq := [], rxq := [4, 3, 0xE8, 0, 0xC8, 0x7B, 0xD5, 0xAA, 0xBB] } })
    (fun s => (s.status.word, s.rxBytes, s.link.rxq)) = some (0x13, replyTwo, [0xAA, 0xBB]) := by decide +kernel
theorem test_poll_timeout : after (step (awaiting reading [1, 3, 4, 3] 0)) (fun s => s.status.word) =
    some 0x1520 := by decide +kernel
-- Program P2, V-TXN-2 and V-TXN-10, after VALIDATING: a wire frame of each function code.
theorem test_rtuRead : after (exec (.rtuReadHoldingRegisters 1 [4, 3, 0xE8, 0, 0xC8] 0xD57B) (validating reading replyTwo))
    (fun s => (outcome s, s.wbufWords 2)) = some ((0x60, 2), [0x03E8, 0x00C8]) := by decide +kernel
theorem test_rtuReadException : after (exec (.rtuReadException 1 2 0xF1C0) (validating reading replyException)) outcome =
    some (0x00021420, 0) := by decide +kernel
theorem test_rtuWrite : after
    (exec (.rtuWriteMultipleRegisters 1 [0x80, 0x52, 0, 1] 0xD889) (validating writing replyAck)) outcome =
    some (0x60, 1) := by decide +kernel
theorem test_rtuWriteException : after
    (exec (.rtuWriteException 1 2 0xC1CD) (validating writing [1, 0x90, 2, 0xCD, 0xC1])) outcome =
    some (0x00021420, 0) := by decide +kernel

/-- A read cut off by a closed stream, with 4 bytes of the reply collected and `r` polls left. -/
def cutOff (r : Byte) : State :=
  { awaiting reading [1, 3, 4, 3] r with
    link := { isOpen := false, refuses := false, txq := [], rxq := [], cut := true } }

-- R168: the stream closes and opens again while the block polls, and the rest of the reply comes too late.
theorem test_close_awaiting : after (step { awaiting reading [1, 3, 4, 3] 0 with inputs := [.linkOpen false] })
    (fun s => (s.link.isOpen, s.link.cut)) = some (false, true) := by decide +kernel
theorem test_cut : after (step { cutOff 0 with inputs := [.linkReceive [0xE8, 0, 0xC8, 0x7B, 0xD5]] })
    (fun s => s.link.rxq) = some [] := by decide +kernel
-- R220, R224: the stream closes before the second read of a snapshot; SEQ_IDX names it (ConnectionError 1).
theorem test_seqIdx_closed : after (step { validating snapshot (appendCrc [1, 3, 2, 0, 1]) with
      link := { snapshot.link with isOpen := false } }) (fun s => (s.status.word, s.seq.word)) =
    some (0x1120, 0x0C01) := by decide +kernel

/-! ### Host accesses (V-ERR-3 to V-ERR-9) -/

theorem test_overrun : after (step { reading with inputs := [.hostWrite 0 0x01] }) (fun s => (s.cmd, s.fault.word)) =
    some (0, 1) := by decide +kernel
theorem test_busyWrite : after (step { reading with inputs := [.hostWrite 1 5] }) (fun s => (s.arg, s.fault.word)) =
    some (0, 2) := by decide +kernel
theorem test_readOnly : after (step { State.reset with inputs := [.hostWrite 2 0] }) (fun s => s.fault.word) =
    some 4 := by decide +kernel
theorem test_bufLen : after (step { State.reset with inputs := [.hostWrite 0xB 265] }) (fun s => (s.bufLen, s.fault.word)) =
    some (0, 4) := by decide +kernel
theorem test_unmapped : after (step { State.reset with inputs := [.hostRead 0xF] }) (fun s => s.fault.word) =
    some 4 := by decide +kernel
theorem test_sessionUnit : after (step { State.reset with inputs := [.hostWrite 5 0x80000107] })
    (fun s => (s.session.word, s.fault.word)) = some (0x80000007, 0) := by decide +kernel

/-! ### Witnesses: for each obligation with hypotheses, a concrete state and operands that meet them, clause by clause -/

theorem witness_DecodeOfEncode :
    (Instr.rtuWriteMultipleRegisters 255 (List.replicate 259 0xFF) 0xFFFF).wf = true ∧
    (Instr.rtuReadHoldingRegisters 0 (List.replicate 255 0) 0).wf = true ∧
    (Instr.rtuReadHoldingRegisters 0 (List.replicate 3 0) 0).wf = true := by decide +kernel

theorem witness_DecodedWordsReencode :
    decode (.frame replyException) = .ok (.rtuReadException 1 2 0xF1C0) ∧
    decode (.command 0xFFFFFF13 0xFFFFFFFF) = .ok (.frameWriteRsp 0xFF) ∧
    (opcOf 0x80100114 ∈ [0x01, 0x02, 0x03, 0x10, 0x11, 0x12, 0x14, 0x15, 0x26] ∧
      BitVec.setWidth 16 (0xFFFF0002 : Reg) = BitVec.setWidth 16 (2 : Reg)) := by decide

theorem witness_AssignedCommandCodes :
    (∀ opc ∈ ([0x14, 0x15, 0x40, 0x41, 0x42, 0x43, 0x44, 0x45, 0x46, 0x47, 0x48] : List Byte),
      BitVec.extractLsb' 0 8 (cmdWord opc 0xFF 0xFFFF) = opc) ∧
    opcOf 0x00000049 ∉ [0x01, 0x02, 0x03, 0x10, 0x11, 0x12, 0x13, 0x14, 0x15, 0x20, 0x21, 0x22, 0x23, 0x24, 0x25,
      0x26, 0x27, 0x30, 0x40, 0x41, 0x42, 0x43, 0x44, 0x45, 0x46, 0x47, 0x48] := by decide

/-- The encoding clauses of the pure commands' statements: a CMD word with each opcode and every other bit 1. -/
theorem witness_PureCommandEncodings :
    ∀ opc ∈ ([0x01, 0x02, 0x03, 0x10, 0x11, 0x12, 0x13, 0x20, 0x21, 0x22, 0x23, 0x24, 0x25, 0x26, 0x27, 0x30] :
      List Byte), BitVec.extractLsb' 0 8 (cmdWord opc 0xFF 0xFFFF) = opc := by decide

theorem witness_StepRunsIssuedCommand :
    let s : State := { State.reset with arg := 2, inputs := [.hostWrite 0 0x80100114] }
    s.inputs = .hostWrite 0 0x80100114 :: [] ∧ s.status.busy = false ∧
      decode (.command 0x80100114 s.arg) = .ok (.readHolding 1 0x8010 2) := by decide

theorem witness_BlockStepRunsDecodedFrame :
    (reading.inputs = [] ∧ reading.status.state = .sending ∧
      decode (.frame reading.txBytes) = .ok (.rtuReadHoldingRegisters 1 [0x80, 0x10, 0, 2] 0x0EEC)) ∧
    ((validating reading replyTwo).inputs = [] ∧ (validating reading replyTwo).status.state = .validating ∧
      decode (.frame (validating reading replyTwo).rxBytes) =
        .ok (.rtuReadHoldingRegisters 1 [4, 3, 0xE8, 0, 0xC8] 0xD57B)) ∧
    (let s : State := { awaiting reading [1, 3, 4, 3] 1 with inputs := [.block, .reset] }
     s.inputs = .block :: [.reset] ∧
       after (step { s with inputs := [], draws := s.draws + 1 }) (fun t => t.status.retriesLeft) = some 0 ∧
       after (step s) (fun t => (t.status.retriesLeft, t.inputs)) = some (0, [.reset])) := by decide +kernel

theorem witness_UnassignedCodeEndsAtOnce :
    let s : State := { State.reset with inputs := [.hostWrite 0 0xFF] }
    s.inputs = .hostWrite 0 0xFF :: [] ∧ s.status.busy = false ∧
    opcOf 0xFF ∉ [0x01, 0x02, 0x03, 0x10, 0x11, 0x12, 0x13, 0x14, 0x15, 0x20, 0x21, 0x22, 0x23, 0x24, 0x25, 0x26,
        0x27, 0x30, 0x40, 0x41, 0x42, 0x43, 0x44, 0x45, 0x46, 0x47, 0x48] := by decide

theorem witness_IdleIsAFixedPoint :
    State.reset.status.state = .idle ∧ State.reset.inputs = [] ∧
    ({ State.reset with inputs := [.block] } : State).inputs = .block :: [] ∧
    ({ State.reset with inputs := [.linkReceive [1]] } : State).inputs = .linkReceive [1] :: [] ∧
    ({ State.reset with inputs := [.linkOpen true] } : State).inputs = .linkOpen true :: [] ∧
    ({ State.reset with inputs := [.linkDrain 1] } : State).inputs = .linkDrain 1 :: [] ∧
    ({ State.reset with inputs := [.linkRefuse true] } : State).inputs = .linkRefuse true :: [] ∧
    ({ State.reset with inputs := [.setTime 7] } : State).inputs = .setTime 7 :: [] := by decide

/-- Each turn in AWAITING, with the reply cut off and not: the reply that comes in time, and the one that does not. -/
theorem witness_LinkAndTimeTurns :
    let turn (s : State) (i : Input) : State := { s with inputs := [i] }
    let polling := awaiting reading [1, 3, 4, 3] 1
    (polling.status.state = .awaiting ∧ polling.link.cut = false ∧
      after (step (turn polling (.linkReceive [9]))) (fun t => t.link.rxq) = some [9]) ∧
    ((cutOff 1).status.state = .awaiting ∧ (cutOff 1).link.cut = true ∧
      after (step (turn (cutOff 1) (.linkReceive [9]))) (fun t => t.link.rxq) = some []) ∧
    after (step (turn polling (.linkOpen false))) (fun t => (t.link.isOpen, t.link.cut)) = some (false, true) ∧
    after (step (turn (cutOff 1) (.linkOpen true))) (fun t => (t.link.isOpen, t.link.cut)) = some (true, true) ∧
    after (step (turn polling (.linkDrain 1))) (fun t => t.link.txq) = some (polling.link.txq.drop 1) ∧
    after (step (turn polling (.linkRefuse true))) (fun t => t.link.refuses) = some true ∧
    after (step (turn polling (.setTime 7))) (fun t => t.time) = some 7 := by decide +kernel

theorem witness_ResetAbortsAndClears : ({ reading with inputs := [.reset] } : State).inputs = .reset :: [] := rfl

/-- BUF full. -/
def full : State := { State.reset with bufLen := 264 }

theorem witness_CrcCalcResult :
    (264 : Word).toNat ≤ full.bufLen.toNat ∧ full.bufLen.toNat < (265 : Word).toNat := by decide

theorem witness_CrcVerifyResult :
    ((2 : Word).toNat ≤ full.bufLen.toNat ∧ (2 : Word).toNat < 3) ∧
    ((3 : Word).toNat ≤ full.bufLen.toNat ∧ 3 ≤ (3 : Word).toNat) ∧
    full.bufLen.toNat < (265 : Word).toNat := by decide

theorem witness_CrcAppendResult :
    ((262 : Word).toNat ≤ full.bufLen.toNat ∧ (262 : Word).toNat ≤ 262) ∧
    ((263 : Word).toNat ≤ full.bufLen.toNat ∧ 262 < (263 : Word).toNat) ∧
    full.bufLen.toNat < (265 : Word).toNat := by decide

theorem witness_CrcAppendedVerifies : ([0x00] : List Byte) ≠ [] := by decide

theorem witness_CrcDetectsSingleBitErrors : 1 < ([] : List Byte).length + 2 ∧ 7 < 8 := by decide

/-- The counts 1 and 127 are in range, 0 and 128 are not: FRAME_READ_REQ, FRAME_WRITE_REQ. -/
theorem witness_FrameReadReqResult :
    (1 ≤ (1 : Word).toNat ∧ (1 : Word).toNat ≤ 127) ∧ (1 ≤ (127 : Word).toNat ∧ (127 : Word).toNat ≤ 127) ∧
    ((0 : Word).toNat = 0 ∨ 127 < (0 : Word).toNat) ∧ ((128 : Word).toNat = 0 ∨ 127 < (128 : Word).toNat) := by decide

theorem witness_FrameWriteReqResult :
    (1 ≤ (127 : Word).toNat ∧ (127 : Word).toNat ≤ 127) ∧
    ((0 : Word).toNat = 0 ∨ 127 < (0 : Word).toNat) ∧ ((128 : Word).toNat = 0 ∨ 127 < (128 : Word).toNat) := by decide

/-- A short reply (V-FRM-19), a valid one (V-FRM-10) and an exception (V-FRM-13) to a read of 2 registers. -/
theorem witness_FrameReadRspResult :
    ((128 : Word).toNat = 0 ∨ 127 < (128 : Word).toNat) ∧
    (let s := withBuf [1, 3, 4, 3, 0xE8, 0, 0xC8, 0x7B]
     1 ≤ (2 : Word).toNat ∧ (2 : Word).toNat ≤ 127 ∧
       s.bufLen.toNat < needRead (s.bufBytes s.bufLen.toNat) (2 : Word).toNat) ∧
    (let s := withBuf replyTwo
     let L := needRead (s.bufBytes s.bufLen.toNat) (2 : Word).toNat
     L ≤ s.bufLen.toNat ∧ validateRead ((s.bufBytes s.bufLen.toNat).take L) 1 (2 : Word).toNat = .ok [0x03E8, 0x00C8]) ∧
    (let s := withBuf replyException
     let L := needRead (s.bufBytes s.bufLen.toNat) (2 : Word).toNat
     L ≤ s.bufLen.toNat ∧ validateRead ((s.bufBytes s.bufLen.toNat).take L) 1 (2 : Word).toNat = .error (.exception, 2)) := by
  decide +kernel

/-- A short ack (V-FRM-30), a valid one (V-FRM-22) and an exception (V-FRM-24). -/
theorem witness_FrameWriteRspResult :
    (let s := withBuf [1, 0x10, 0x80, 0x52, 0, 1, 0x89]
     s.bufLen.toNat < needWrite (s.bufBytes s.bufLen.toNat)) ∧
    (let s := withBuf replyAck
     let L := needWrite (s.bufBytes s.bufLen.toNat)
     L ≤ s.bufLen.toNat ∧ validateWrite ((s.bufBytes s.bufLen.toNat).take L) 1 = .ok []) ∧
    (let s := withBuf [1, 0x90, 2, 0xCD, 0xC1]
     let L := needWrite (s.bufBytes s.bufLen.toNat)
     L ≤ s.bufLen.toNat ∧ validateWrite ((s.bufBytes s.bufLen.toNat).take L) 1 = .error (.exception, 2)) := by
  decide +kernel

theorem witness_ValidRepliesAreAccepted :
    1 ≤ ([0x03E8] : List Word).length ∧ (List.replicate 127 (0 : Word)).length ≤ 127 := by decide +kernel

/-- V-FRM-16 and V-FRM-29: an exception code of the other function is taken at the normal length; so is a single byte. -/
theorem witness_ExceptionReplyCarriesItsCode :
    (let rx : List Byte := [1, 0x90, 4, 3, 0xE8, 0, 0xC8, 0x66, 0xB6]
     rx.getD 1 0 ≠ 0x83 ∧ needRead rx 2 = 9 ∧ validateRead rx 1 2 = .error (.functionCode, 0)) ∧
    (let rx : List Byte := [1, 0x83, 2, 0xC0, 0xF1]
     2 ≤ rx.length ∧ rx.getD 1 0 = 0x83 ∧ rx.getD 1 0 ≠ 0x90 ∧ needWrite rx = 8) ∧
    (let rx : List Byte := [1, 0x90, 2, 0xCD, 0xC1]
     2 ≤ rx.length ∧ rx.getD 1 0 = 0x90 ∧ needWrite rx = 5) ∧
    (([1] : List Byte).length < 2 ∧ needRead [1] 127 = 259 ∧ needWrite [1] = 8) := by decide +kernel

theorem witness_EngineCommandsStart :
    (readTwo = { fc := 0x03, unit := 1, start := 0x8010, count := 2, values := [] } ∧ 1 ≤ (2 : Word).toNat ∧
      (2 : Word).toNat ≤ 127 ∧ opened.link.isOpen = true) ∧
    (let s := withWbuf [0x04D2] opened
     writeOne = { fc := 0x10, unit := 1, start := 0x8052, count := 1, values := s.wbufWords (1 : Word).toNat } ∧
       1 ≤ (1 : Word).toNat ∧ (1 : Word).toNat ≤ 127 ∧ s.link.isOpen = true) ∧
    ((0 : Word).toNat = 0 ∨ 127 < (0 : Word).toNat) ∧ ((128 : Word).toNat = 0 ∨ 127 < (128 : Word).toNat) := by
  decide +kernel

/-- A session unit, and the stream closed. -/
def closed : State := { State.reset with session := { unit := 1, valid := true } }

theorem witness_ClosedStreamEndsTheCommand :
    (descsOf closed.session.unit .readSnapshot (snapshotDescs 1) ∧
      (usesSession .readSnapshot = true → closed.session.valid = true) ∧ closed.link.isOpen = false) ∧
    (descsOf State.reset.session.unit (.readHolding 1 0x8010 2) [readTwo] ∧
      (usesSession (.readHolding 1 0x8010 2) = true → State.reset.session.valid = true) ∧
      State.reset.link.isOpen = false) :=
  ⟨⟨rfl, fun _ => rfl, rfl⟩, ⟨by decide, rfl⟩, by decide, rfl⟩

/-! The invariant holds of transactions in flight. -/

/-- A transaction that has just started: what is left to say of its command and of its request. -/
theorem inv_sending (opc a : Byte) (b : Word) (arg : Reg) (td : List TxnDesc) (d : TxnDesc) (i : Instr)
    (hi : decodeFields opc a b arg = .ok i) (hd : descsOf 1 i td) (hok : ∀ x ∈ td, x.ok) (hl : td.length < 256)
    (h0 : td[0]? = some d)
    (hf : Memory.wf Config.txbufCap (cellsWrite (w := 8) 0 d.frame []) ∧ d.frame.length ≤ Config.txbufCap ∧
      (BitVec.ofNat 9 d.frame.length).toNat = d.frame.length ∧
      cellsHold (w := 8) (cellsWrite (w := 8) 0 d.frame []) d.frame) :
    Inv (sending opc a b arg td 0 d) where
  buf := by simp [sending, session, opened, State.reset, Memory.wf, Store.wf]
  wbuf := by simp [sending, session, opened, State.reset, Store.wf]
  txbuf := hf.1
  rxbuf := by simp [sending, session, opened, State.reset, Memory.wf, Store.wf]
  bufLen := Nat.zero_le _
  txLen := by show (BitVec.ofNat 9 d.frame.length).toNat ≤ _; rw [hf.2.2.1]; exact hf.2.1
  rxCount := Nat.zero_le _
  busy := ⟨fun _ h => TxnState.noConfusion h, fun _ => rfl⟩
  done := fun _ => rfl
  ok := fun h => nomatch h
  err := fun h => absurd rfl h
  excCode := fun _ => rfl
  retriesLeft := fun _ => rfl
  cut := fun h => nomatch h
  running _ :=
    { command := ⟨i, hi, hd⟩
      descs := hok
      total := by show (BitVec.ofNat 8 td.length).toNat = td.length; simp; omega
      current := ⟨d, h0, ⟨rfl, rfl, rfl, rfl⟩, hf.2.2.1, hf.2.2.2⟩
      staged := ⟨Nat.zero_le _, fun k hk => absurd hk (Nat.not_lt_zero k)⟩
      reply := ⟨fun i hi => absurd hi (Nat.not_lt_zero i), Nat.zero_le _⟩
      sending := fun _ => rfl
      retries := fun h => nomatch h
      validating := fun h => nomatch h }
  vr := by
    intro e he
    simp only [sending, session, opened, State.reset, Vector.toList_replicate, List.mem_replicate] at he
    rw [he.2]
    exact fun h => nomatch h
  snapOnline := fun h => nomatch h
  snapCoherent := fun h => nomatch h

theorem inv_reading : Inv reading :=
  inv_sending 0x14 1 0x8010 2 [readTwo] readTwo (.readHolding 1 0x8010 2) rfl ⟨by decide, rfl⟩ (by decide)
    (by decide) rfl (by decide +kernel)

theorem inv_snapshot : Inv snapshot :=
  inv_sending 0x42 0 0 0 (snapshotDescs 1) (readDesc 1 0x8000 1) .readSnapshot rfl rfl (by decide)
    (by decide) rfl (by decide +kernel)

/-- A read in AWAITING, with 4 bytes of the reply collected and `r` polls left. -/
theorem inv_awaiting (r : Byte) : Inv (awaiting reading [1, 3, 4, 3] r) :=
  { inv_reading with
    rxbuf := (by decide +kernel : Memory.wf Config.rxbufCap (awaiting reading [1, 3, 4, 3] 0).rxbuf)
    rxCount := (by decide : (4 : BitVec 9).toNat ≤ Config.rxbufCap)
    busy := ⟨fun _ h => TxnState.noConfusion h, fun _ => rfl⟩
    retriesLeft := fun h => absurd rfl h
    cut := fun _ h => nomatch h
    running := fun _ =>
      { inv_reading.running rfl with
        current := (inv_reading.running rfl).current
        reply :=
          (by decide +kernel : cellsWritten (w := 8) (awaiting reading [1, 3, 4, 3] 0).rxbuf 4 ∧
            (awaiting reading [1, 3, 4, 3] 0).rxCount.toNat ≤
              (awaiting reading [1, 3, 4, 3] 0).tr.need (awaiting reading [1, 3, 4, 3] 0).rxBytes)
        sending := fun h => nomatch h
        retries := fun _ => rfl
        validating := fun h => nomatch h } }

/-- The invariant does not look at the transport's refusal. -/
theorem inv_refusing : Inv { reading with link := { reading.link with refuses := true } } :=
  { inv_reading with running := fun _ => { inv_reading.running rfl with } }

theorem witness_SendingStep :
    (Inv reading ∧ reading.inputs = [] ∧ reading.status.state = .sending ∧ reading.link.isOpen = true ∧
      reading.link.refuses = false) ∧
    (∃ s, Inv s ∧ s.inputs = [] ∧ s.status.state = .sending ∧ (s.link.isOpen = false ∨ s.link.refuses = true) ∧
      s.cur.opc ≠ 0x42) :=
  ⟨⟨inv_reading, rfl, rfl, rfl, rfl⟩, _, inv_refusing, rfl, rfl, .inr rfl, by decide⟩

/-- The last poll, a poll with one left, and (with the rest of the reply waiting) a poll that completes the reply. -/
theorem witness_PollStep :
    (reading.tr.fc = 0x03 ∧ reading.tr.need [1, 0x83] = 5 ∧ reading.tr.need [1, 0x90] = 9) ∧
    (writing.tr.fc = 0x10 ∧ writing.tr.need [1, 0x90] = 5 ∧ writing.tr.need [1, 0x83] = 8) ∧
    (Inv (awaiting reading [1, 3, 4, 3] 0) ∧ (awaiting reading [1, 3, 4, 3] 0).status.state = .awaiting ∧
      (awaiting reading [1, 3, 4, 3] 0).inputs = [] ∧ (awaiting reading [1, 3, 4, 3] 0).tr.r = 0 ∧
      (awaiting reading [1, 3, 4, 3] 0).cur.opc ≠ 0x42) ∧
    (Inv (awaiting reading [1, 3, 4, 3] 1) ∧ (awaiting reading [1, 3, 4, 3] 1).tr.r ≠ 0) ∧
    (([1, 3, 4, 3] : List Byte).length < (awaiting reading [1, 3, 4, 3] 0).tr.need [1, 3, 4, 3]) ∧
    (replyTwo.length = (awaiting reading [1, 3, 4, 3] 0).tr.need replyTwo) :=
  ⟨by decide, by decide, ⟨inv_awaiting 0, rfl, rfl, rfl, by decide⟩, ⟨inv_awaiting 1, by decide⟩, by decide, by decide⟩

/-- A reply with a bad CRC; a valid reply to the first read of a snapshot (0x8000 holds 1). -/
theorem witness_ValidatingStep :
    (let s := validating reading [1, 3, 4, 3, 0xE8, 0, 0xC8, 0x7B, 0xD4]
     s.inputs = [] ∧ s.status.state = .validating ∧ s.tr.validate s.rxBytes = .error (.crcMismatch, 0) ∧
       s.cur.opc ≠ 0x42) ∧
    (let s := validating snapshot (appendCrc [1, 3, 2, 0, 1])
     s.inputs = [] ∧ s.status.state = .validating ∧ s.tr.validate s.rxBytes = .ok [1] ∧
       s.td[s.seq.idx.toNat + 1]? = some (readDesc 1 0x8001 1) ∧ s.link.isOpen = true ∧
       s.seq.total = BitVec.ofNat 8 s.td.length) ∧
    (reading.tr.fc = 0x03 ∧ reading.tr.validate replyTwo = .ok [0x03E8, 0x00C8]) ∧
    (writing.tr.fc = 0x10 ∧ writing.tr.validate [2, 0x10, 0x80, 0x52, 0, 1, 0x89, 0xEB] = .error (.address, 0)) := by
  decide +kernel

theorem witness_EngineCommandsCommit :
    (let s := validating reading replyTwo
     s.lastReplyGives [0x03E8, 0x00C8] ∧ s.seq.idx = 0 ∧ s.cur.opc = 0x14 ∧
       ([0x03E8, 0x00C8] : List Word).length = (s.cur.arg.setWidth 16).toNat) ∧
    (let s := validating writing replyAck
     s.lastReplyGives [] ∧ s.seq.idx = 0 ∧ s.cur.opc = 0x15) := by decide +kernel

theorem witness_ReadHoldingEndToEnd :
    let ws : List Word := [0x03E8, 0x00C8]
    let s : State := { opened with
      arg := 2
      inputs := [.hostWrite 0 (cmdWord 0x14 1 0x8010), .block,
        .linkReceive (appendCrc ([1, 0x03, BitVec.ofNat 8 (2 * ws.length)] ++ wordBytes ws)), .block, .block] }
    1 ≤ ws.length ∧ ws.length ≤ 127 ∧ s.status.state = .idle ∧ s.status.busy = false ∧
      s.arg = BitVec.ofNat 32 ws.length ∧ s.link.isOpen = true ∧ s.link.refuses = false ∧
      s.inputs = [.hostWrite 0 (cmdWord 0x14 1 0x8010), .block,
        .linkReceive (appendCrc ([1, 0x03, BitVec.ofNat 8 (2 * ws.length)] ++ wordBytes ws)), .block, .block] := by
  decide +kernel

theorem witness_CommandEndsWithinItsBound :
    Inv reading ∧ reading.inputs = [] ∧ reading.status.busy = true ∧ reading.status.state = .sending ∧
      reading.seq.idx = 0 := ⟨inv_reading, rfl, rfl, rfl, rfl⟩

/-- A block step, and a turn of the link, of a running command. -/
theorem witness_EachBlockStepLowersTheBound :
    (Inv reading ∧ reading.status.busy = true ∧ (reading.inputs = [] ∨ reading.inputs.head? = some .block) ∧
      after (step reading) (fun t => t.status.state) = some .awaiting) ∧
    (∃ s : State, Inv s ∧ s.status.busy = true ∧ s.inputs = .linkDrain 1 :: [] ∧
      after (step s) (fun t => t.inputs) = some [] ∧ Input.linkDrain 1 ≠ .block ∧ Input.linkDrain 1 ≠ .reset) :=
  ⟨⟨inv_reading, rfl, .inl rfl, by decide +kernel⟩, { reading with inputs := [.linkDrain 1] },
    { inv_reading with running := fun _ => { inv_reading.running rfl with } }, rfl, rfl, by decide +kernel,
    by decide, by decide⟩

theorem inv_cutOff (r : Byte) : Inv (cutOff r) :=
  { inv_awaiting r with cut := fun _ _ => rfl, running := fun _ => { (inv_awaiting r).running rfl with } }

/-- The stream closes; the last poll of a reply that is cut off; and a poll with one left. -/
theorem witness_StreamClosedWhileAwaiting :
    (∃ s : State, Inv s ∧ s.status.state = .awaiting ∧ s.inputs = .linkOpen false :: [] ∧
      after (step s) (fun t => t.link.cut) = some true) ∧
    (Inv (cutOff 0) ∧ (cutOff 0).status.state = .awaiting ∧ (cutOff 0).starved ∧
      (cutOff 0).inputs.head? ≠ some .reset ∧ after (step (cutOff 0)) (fun t => t.status.done) = some true) ∧
    (Inv (cutOff 1) ∧ (cutOff 1).link.cut = true ∧
      after (step (cutOff 1)) (fun t => t.status.state) = some .awaiting) :=
  ⟨⟨{ awaiting reading [1, 3, 4, 3] 0 with inputs := [.linkOpen false] },
      { inv_awaiting 0 with running := fun _ => { (inv_awaiting 0).running rfl with } }, rfl, rfl,
      by decide +kernel⟩,
    ⟨inv_cutOff 0, rfl,
      { awaiting := rfl
        cut := rfl
        short := fun taken rest h => by
          obtain ⟨rfl, -⟩ := List.append_eq_nil_iff.mp h.symm
          decide +kernel },
      by decide, by decide +kernel⟩,
    inv_cutOff 1, rfl, by decide +kernel⟩

/-- The second transaction of a snapshot starts, a command starts, and the host writes BUF[0] of a running command. -/
theorem witness_ResultsKeptWhileRunning :
    after (step (validating snapshot (appendCrc [1, 3, 2, 0, 1]))) (fun t => t.status.busy) = some true ∧
    after (step { opened with arg := 2, inputs := [.hostWrite 0 0x80100114] }) (fun t => t.status.busy) = some true ∧
    after (step { reading with inputs := [.hostWrite 0x100 7] }) (fun t => (t.status.busy, t.buf)) =
      some (true, reading.buf) := by decide +kernel

theorem witness_LaterStepsReadOnlyLatchedOperands :
    reading.inputs = [] ∧ (after (step reading) (fun t => t.status.state)) = some .awaiting := by decide +kernel

theorem witness_OnlySendingSends :
    (Inv reading ∧ reading.inputs = [] ∧ reading.status.state = .sending ∧
      after (step reading) (fun t => t.status.state) = some .awaiting) ∧
    (Inv (awaiting reading [1, 3, 4, 3] 1) ∧ (awaiting reading [1, 3, 4, 3] 1).inputs = [] ∧
      (awaiting reading [1, 3, 4, 3] 1).status.state = .awaiting ∧
      after (step (awaiting reading [1, 3, 4, 3] 1)) (fun t => t.status.state) = some .awaiting) :=
  ⟨⟨inv_reading, rfl, rfl, by decide +kernel⟩, inv_awaiting 1, rfl, rfl, by decide +kernel⟩

theorem witness_WireFramesComplete :
    (reading.status.state = .sending ∧ reading.link.isOpen = true ∧ reading.link.refuses = false) ∧
    (let s := validating reading replyException
     s.status.state = .validating ∧ s.tr.unit = 1 ∧ s.cur.opc ≠ 0x42 ∧ s.tr.fc = 0x03 ∧
       (0xF1C0 : Word) = crc16 [1, 0x83, 2]) ∧
    (let s := validating writing [1, 0x90, 2, 0xCD, 0xC1]
     s.status.state = .validating ∧ s.tr.unit = 1 ∧ s.cur.opc ≠ 0x42 ∧ s.tr.fc = 0x10 ∧
       (0xC1CD : Word) = crc16 [1, 0x90, 2]) ∧
    (let s := validating writing replyAck
     s.status.state = .validating ∧ s.tr.unit = 1 ∧ s.td.length = s.seq.idx.toNat + 1 ∧ s.seq.idx = 0 ∧
       s.tr.fc = 0x10 ∧ s.cur.opc = 0x15 ∧ ([0x80, 0x52, 0, 1] : List Byte).length = 4 ∧
       (0xD889 : Word) = crc16 (1 :: 0x10 :: [0x80, 0x52, 0, 1])) ∧
    (let s := validating (sending 0x43 0 5 0 [writeDesc 1 0x8000 [5]] 0 (writeDesc 1 0x8000 [5])) []
     s.tr.fc = 0x10 ∧ s.cur.opc ∈ [0x43, 0x44, 0x45, 0x46, 0x47, 0x48] ∧ s.td = [writeDesc 1 0x8000 [5]] ∧
       (writeDesc 1 0x8000 [5]).values = [5]) ∧
    (let s := validating reading replyTwo
     let ws : List Word := [0x03E8, 0x00C8]
     s.status.state = .validating ∧ s.tr.unit = 1 ∧ s.td.length = s.seq.idx.toNat + 1 ∧ s.seq.idx = 0 ∧
       s.tr.fc = 0x03 ∧ s.cur.opc = 0x14 ∧ ws.length = s.tr.count.toNat ∧
       ws.length = (s.cur.arg.setWidth 16).toNat ∧
       (0xD57B : Word) = crc16 (1 :: 0x03 :: BitVec.ofNat 8 (2 * ws.length) :: wordBytes ws)) ∧
    (encode (.rtuReadHoldingRegisters 1 [4, 3, 0xE8, 0, 0xC8] 0xD57C) = .frame [1, 3, 4, 3, 0xE8, 0, 0xC8, 0x7C, 0xD5] ∧
      reading.tr.validate [1, 3, 4, 3, 0xE8, 0, 0xC8, 0x7C, 0xD5] = .error (.crcMismatch, 0)) := by decide +kernel

theorem witness_VoltageDecodersResult : 0x8000 < (0x8001 : Word).toNat ∧ (0x8000 : Word).toNat ≤ 0x8000 := by decide

theorem witness_VoltageEncodersResult :
    (32768000 : Reg).toNat ≤ 32768000 ∧ (32768000 < (32768001 : Reg).toNat ∧ (327674999 : Reg).toNat < 327675000) ∧
    327675000 ≤ (327675000 : Reg).toNat ∧ (655354999 : Reg).toNat < 655355000 ∧
    655355000 ≤ (655355000 : Reg).toNat := by decide +kernel

theorem witness_BaudCodecResult : 3 ≤ (4 : Word).toNat ∧ (12345 : Reg) ∉ [9600, 19200, 38400, 57600] := by decide

theorem witness_MaskDecodeResult : (1 ≤ 16 ∧ 16 ≤ 16) ∧ (17 ≤ 17 ∧ 32 ≤ 32) := by decide

theorem witness_TextDecodeResult : (128 : Byte).toNat ≤ 128 ∧ 128 < (129 : Byte).toNat := by decide

theorem witness_VoltageRoundTripLaw :
    ((0x8000 : Word).toNat ≤ 0x8000 ∨ 0x8CCD ≤ (0x8000 : Word).toNat) ∧
    ((0x8CCD : Word).toNat ≤ 0x8000 ∨ 0x8CCD ≤ (0x8CCD : Word).toNat) ∧
    (0x8001 ≤ (0x8001 : Word).toNat ∧ (0x8CCC : Word).toNat ≤ 0x8CCC) ∧
    voltEncode 32768000 = .ok 0x8000 ∧ voltEncode 32768001 = .ok 0x8CCD := by decide +kernel

theorem witness_RegLookupResult :
    (16 : Byte).toNat ≤ 16 ∧ 16 < (17 : Byte).toNat ∧
    [(0x8000, 1), (0x8001, 1)][(1 : Byte).toNat]? = some (0x8001, 1) := by decide

/-- The reads; and for the writes one state `started` for each address and value: the one a write's transaction gives. -/
theorem witness_DeviceCommandsStart :
    ((session 1).session.valid = true ∧ 1 = (session 1).session.unit ∧ (session 1).link.isOpen = true ∧
      1 ≤ (1 : Byte).toNat ∧ (32 : Byte).toNat ≤ 32 ∧ (snapshotDescs 1)[0]? = some (readDesc 1 0x8000 1)) ∧
    (∃ (s : State) (u : Byte) (started : Nat → Word → State),
      s.session.valid = true ∧ u = s.session.unit ∧ s.link.isOpen = true ∧
      (∀ addr v d, d = { fc := 0x10, unit := u, start := BitVec.ofNat 16 addr, count := 1, values := [v] } →
        started addr v = { s with unit := u }.afterStart [d] 0 d) ∧
      1 ≤ (1 : Word).toNat ∧ (128 : Word).toNat ≤ 128 ∧ (655354999 : Reg).toNat < 655355000) :=
  ⟨by decide, session 1, 1,
    fun addr v => { session 1 with unit := 1 }.afterStart
      [{ fc := 0x10, unit := 1, start := BitVec.ofNat 16 addr, count := 1, values := [v] }] 0
      { fc := 0x10, unit := 1, start := BitVec.ofNat 16 addr, count := 1, values := [v] },
    rfl, rfl, rfl, fun _ _ _ h => by rw [h], by decide, by decide, by decide +kernel⟩

theorem witness_DeviceCommandsRefused :
    ((33 : Byte).toNat = 0 ∨ 32 < (33 : Byte).toNat) ∧ ((129 : Word).toNat = 0 ∨ 128 < (129 : Word).toNat) ∧
    (115200 : Reg) ∉ [9600, 19200, 38400, 57600] ∧
    (1 ≤ (32 : Byte).toNat ∧ (32 : Byte).toNat ≤ 32 ∧ 655355000 ≤ (655355000 : Reg).toNat) ∧
    (usesSession (.readSingleVoltage 32) = true ∧
      descsOf State.reset.session.unit (.readSingleVoltage 32) [readDesc 0 (voltAddr 32) 1] ∧
      State.reset.session.valid = false) :=
  ⟨by decide, by decide, by decide, by decide +kernel, rfl, ⟨by decide, rfl⟩, rfl⟩

/-- A transaction of a device-level command on unit 1 in VALIDATING, with the reply `rx`. -/
def replied (opc a : Byte) (td : List TxnDesc) (k : Nat) (d : TxnDesc) (rx : List Byte) : State :=
  validating (sending opc a 0 0 td k d) rx

/-- The reply to a read, from unit 1. -/
def readReply (ws : List Word) : List Byte :=
  appendCrc ([1, 0x03, BitVec.ofNat 8 (2 * ws.length)] ++ wordBytes ws)

theorem witness_VoltageReadsCommit :
    (let w : List Word := List.replicate 32 0x03E8
     let s := replied 0x40 0 [readDesc 1 0x8010 32] 0 (readDesc 1 0x8010 32) (readReply w)
     s.lastReplyGives w ∧ s.seq.idx = 0 ∧ s.cur.opc = 0x40 ∧ w.length = 32) ∧
    (let s := replied 0x41 32 [readDesc 1 0x802F 1] 0 (readDesc 1 0x802F 1) (readReply [0x00C8])
     s.lastReplyGives [0x00C8] ∧ s.seq.idx = 0 ∧ s.cur.opc = 0x41 ∧ 1 ≤ s.cur.a.toNat ∧ s.cur.a.toNat ≤ 32) := by
  decide +kernel

theorem witness_ReadSnapshotCommits :
    let name : List Word := List.replicate 32 0xFFFF
    let serial : List Word := List.replicate 31 0x4142
    let stage : List (List Word) := [[1], [12], [7], [0], [0], [0x8000, 1], [25], [24], [100], [1], name]
    let s : State := { replied 0x42 0 (snapshotDescs 1) 11 (readDesc 1 0x8820 31) (readReply serial) with
      stage := stage }
    s.lastReplyGives serial ∧ s.seq.idx = 11 ∧ s.cur.opc = 0x42 ∧ s.stage = stage ∧
      name.length = 32 ∧ serial.length = 31 := by decide +kernel

theorem witness_DeviceWritesCommit :
    let d := writeDesc 1 0x8000 [5]
    let s := replied 0x43 0 [d] 0 d (appendCrc [1, 0x10, 0x80, 0, 0, 1])
    s.lastReplyGives [] ∧ s.seq.idx = 0 ∧ s.cur.opc ∈ [0x43, 0x44, 0x45, 0x46, 0x47, 0x48] ∧
    s.td = [{ fc := 0x10, unit := 1, start := 0x8000, count := 1, values := [5] }] := by decide +kernel

theorem witness_FailedSnapshotGoesOffline :
    (let s := validating snapshot replyException
     s.cur.opc = 0x42 ∧ s.inputs = [] ∧ s.status.state = .validating ∧
       s.tr.validate s.rxBytes = .error (.exception, 2)) ∧
    (let s : State := { validating snapshot (appendCrc [1, 3, 2, 0, 1]) with link := State.reset.link }
     s.cur.opc = 0x42 ∧ s.inputs = [] ∧ s.status.state = .validating ∧ s.tr.validate s.rxBytes = .ok [1] ∧
       s.td[s.seq.idx.toNat + 1]? = some (readDesc 1 0x8001 1) ∧ s.link.isOpen = false) ∧
    (∃ s, Inv s ∧ s.cur.opc = 0x42 ∧ s.inputs = [] ∧ s.status.state = .sending ∧
      (s.link.isOpen = false ∨ s.link.refuses = true)) ∧
    (let s := awaiting snapshot [] 0
     s.cur.opc = 0x42 ∧ s.inputs = [] ∧ s.status.state = .awaiting ∧ s.status.done = false ∧
       after (step s) (fun t => t.status.done) = some true) :=
  ⟨by decide +kernel, by decide +kernel,
    ⟨{ snapshot with link := { snapshot.link with isOpen := false } },
      { inv_snapshot with
        cut := fun h => TxnState.noConfusion h
        running := fun _ => { inv_snapshot.running rfl with } }, rfl, rfl, rfl, .inl rfl⟩,
    by decide +kernel⟩

/-- Each refused write at the ends of its ranges. -/
theorem witness_RefusedHostWrites :
    ({ reading with inputs := [.hostWrite 0 1] } : State).inputs = .hostWrite 0 1 :: [] ∧ reading.status.busy = true ∧
    (0x100 ≤ (0x207 : BitVec 12).toNat ∧ (0x207 : BitVec 12).toNat ≤ 0x207) ∧
    (0x280 ≤ (0x2FF : BitVec 12).toNat ∧ (0x2FF : BitVec 12).toNat ≤ 0x2FF) ∧ (264 : Reg).toNat ≤ 264 ∧
    (0x208 ≤ (0x208 : BitVec 12).toNat ∧ (0x27F : BitVec 12).toNat ≤ 0x27F) ∧ 0x300 ≤ (0xFFF : BitVec 12).toNat ∧
    264 < (265 : Reg).toNat ∧ State.reset.status.busy = false := by decide

theorem witness_HostWriteEffects :
    ({ State.reset with inputs := [.hostWrite 0x207 0x1FF] } : State).inputs = .hostWrite 0x207 0x1FF :: [] ∧
    State.reset.status.busy = false ∧ (264 : Reg).toNat ≤ 264 ∧
    0x100 ≤ (0x207 : BitVec 12).toNat ∧ (0x207 : BitVec 12).toNat ≤ 0x207 ∧
    0x280 ≤ (0x280 : BitVec 12).toNat ∧ (0x2FF : BitVec 12).toNat ≤ 0x2FF := by decide

/-- An unmapped and a mapped index. -/
theorem witness_HostReadEffects :
    (({ State.reset with inputs := [.hostRead 2] } : State).inputs = .hostRead 2 :: []) ∧
    0x85F ≤ (0xFFF : BitVec 12).toNat ∧ ¬(0x00F ≤ (0x00E : BitVec 12).toNat) := by decide

/-- After a snapshot, with channel 32 read and every buffer written. -/
theorem witness_HostReadValues :
    (({ State.reset with inputs := [.hostRead 2] } : State).inputs = .hostRead 2 :: [] ∧
      after (step { State.reset with inputs := [.hostRead 2] }) (fun t => t.inputs) = some []) ∧
    (0x207 : BitVec 12).toNat = 0x100 + 263 ∧ cellGet (w := 8) [(263, 1)] 263 = some 1 ∧
    (0x7FD : BitVec 12).toNat = 0x700 + 8 * 31 + 5 ∧
    (∃ e : VrEntry, e.valid = true) ∧ (∃ b : Snapshot, b.written = true) ∧
    (0x83F : BitVec 12).toNat = 0x820 + 31 ∧ (0x85E : BitVec 12).toNat = 0x840 + 30 :=
  ⟨⟨rfl, by decide +kernel⟩, by decide, by decide, by decide, ⟨{ VrEntry.reset with valid := true }, rfl⟩,
    ⟨{ Snapshot.reset with written := true }, rfl⟩, by decide, by decide⟩

theorem witness_StatusCodes :
    ({ Status.reset with err := some .sessionUnitUnset } : Status).err = some .sessionUnitUnset ∧
    Status.reset.err = none ∧ Status.reset.state = .idle := by decide

theorem witness_FaultBitsAreSticky :
    let s : State := { State.reset with fault := { cmdOverrun := true, busyWrite := true, badAccess := true } }
    s.inputs.head? ≠ some .reset ∧ (∃ t, step s = .next t) ∧ s.fault.cmdOverrun = true ∧ s.fault.busyWrite = true ∧
      s.fault.badAccess = true := ⟨by decide, ⟨_, rfl⟩, rfl, rfl, rfl⟩

theorem witness_EveryStepKeepsTheInvariant :
    Inv reading ∧ after (step reading) (fun t => t.status.state) = some .awaiting :=
  ⟨inv_reading, by decide +kernel⟩

end Sys2Proof.Tests
end

/-! PROOF. The turns of the link and of TIME (00_scope.md R9, 10_state.md R45, R48, 42_rtu_transaction.md R168): how a
step takes the next input, the bit `isCut` that decides what the link may append, and what each such turn changes. -/

namespace Sys2Proof.Machine

section LinkAndTime
variable {s : State} {rest : List Input}

/-- A step with an input pending takes that input, whichever agent's turn it is (log 4). -/
theorem step_of_inputs_cons {i : Input} (h : s.inputs = i :: rest) : step s = takeInput (s.nextTurn rest) i := by
  simp only [step, h]

theorem State.isCut_eq_true_iff : s.isCut = true ↔ s.status.state = .awaiting ∧ s.link.cut = true := by
  simp only [State.isCut, Bool.and_eq_true, decide_eq_true_eq]

theorem State.isCut_eq_false_iff : s.isCut = false ↔ s.status.state ≠ .awaiting ∨ s.link.cut = false := by
  simp only [State.isCut, Bool.and_eq_false_iff, decide_eq_false_iff_not, ne_eq]

theorem State.receive_of_not_isCut (bytes : List Byte) (h : s.isCut = false) :
    s.receive bytes = { s with link := { s.link with rxq := s.link.rxq ++ bytes } } := by
  rcases s.receive_cases bytes with ⟨-, heq⟩ | ⟨hcut, -⟩
  · exact heq
  · exact absurd (h.symm.trans hcut) Bool.false_ne_true

theorem State.receive_of_isCut (bytes : List Byte) (h : s.isCut = true) : s.receive bytes = s := by
  rcases s.receive_cases bytes with ⟨hcut, -⟩ | ⟨-, heq⟩
  · exact absurd (hcut.symm.trans h) Bool.false_ne_true
  · exact heq

theorem State.changeOpen_of_not_closing (o : Bool) (h : s.status.state ≠ .awaiting ∨ o = true) :
    s.changeOpen o = { s with link := { s.link with isOpen := o } } := by
  rcases s.changeOpen_cases o with ⟨rfl, hstate, -⟩ | ⟨-, heq⟩
  · exact absurd hstate (h.resolve_right Bool.false_ne_true)
  · exact heq

theorem State.changeOpen_of_closing (h : s.status.state = .awaiting) :
    s.changeOpen false = { s with link := { s.link with isOpen := false, cut := true } } := by
  rcases s.changeOpen_cases false with ⟨-, -, heq⟩ | ⟨hkept, -⟩
  · exact heq
  · exact absurd h (hkept.resolve_left Bool.false_ne_true)

theorem step_linkReceive_of_not_isCut {bytes : List Byte} (h : s.inputs = .linkReceive bytes :: rest)
    (hcut : s.isCut = false) :
    step s = .next { s.nextTurn rest with link := { s.link with rxq := s.link.rxq ++ bytes } } :=
  (step_of_inputs_cons h).trans (congrArg _ (State.receive_of_not_isCut bytes (s := s.nextTurn rest) hcut))

theorem step_linkReceive_of_isCut {bytes : List Byte} (h : s.inputs = .linkReceive bytes :: rest)
    (hcut : s.isCut = true) : step s = .next (s.nextTurn rest) :=
  (step_of_inputs_cons h).trans (congrArg _ (State.receive_of_isCut bytes (s := s.nextTurn rest) hcut))

theorem step_linkOpen_of_not_closing {o : Bool} (h : s.inputs = .linkOpen o :: rest)
    (hkept : s.status.state ≠ .awaiting ∨ o = true) :
    step s = .next { s.nextTurn rest with link := { s.link with isOpen := o } } :=
  (step_of_inputs_cons h).trans (congrArg _ (State.changeOpen_of_not_closing o (s := s.nextTurn rest) hkept))

theorem step_linkOpen_of_closing (h : s.inputs = .linkOpen false :: rest) (hstate : s.status.state = .awaiting) :
    step s = .next { s.nextTurn rest with link := { s.link with isOpen := false, cut := true } } :=
  (step_of_inputs_cons h).trans (congrArg _ (State.changeOpen_of_closing (s := s.nextTurn rest) hstate))

theorem step_linkDrain {n : Nat} (h : s.inputs = .linkDrain n :: rest) :
    step s = .next { s.nextTurn rest with link := { s.link with txq := s.link.txq.drop n } } :=
  step_of_inputs_cons h

theorem step_linkRefuse {r : Bool} (h : s.inputs = .linkRefuse r :: rest) :
    step s = .next { s.nextTurn rest with link := { s.link with refuses := r } } :=
  step_of_inputs_cons h

theorem step_setTime {v : BitVec 64} (h : s.inputs = .setTime v :: rest) :
    step s = .next { s.nextTurn rest with time := v } :=
  step_of_inputs_cons h

end LinkAndTime

/-- Settles O10, one agent's turn at a time: bytes received split on the cut (R168), a change of OPEN on whether it
closes the stream while the block polls, and the other turns have one outcome. -/
theorem linkAndTimeTurns : Obligations.LinkAndTimeTurns := by
  rintro s _ rest rfl
  refine ⟨fun bytes hin => ⟨fun hkept => ?received, fun hstate hcut => ?cutOff⟩, fun n hin => step_linkDrain hin,
    fun o hin => ⟨fun hkept => step_linkOpen_of_not_closing hin hkept, fun hstate hclosed => ?closing⟩,
    fun r hin => step_linkRefuse hin, fun v hin => step_setTime hin⟩
  case received => exact step_linkReceive_of_not_isCut hin (State.isCut_eq_false_iff.mpr hkept)
  case cutOff => exact step_linkReceive_of_isCut hin (State.isCut_eq_true_iff.mpr ⟨hstate, hcut⟩)
  case closing =>
    subst hclosed
    exact step_linkOpen_of_closing hin hstate

end Sys2Proof.Machine

/-! PROOF. The block's own step (42_rtu_transaction.md R150): the one state it leads to, in every state of the block
(log 7), and that it neither reads nor writes CMD, ARG, SESSION_UNIT and FAULT (10_state.md R27, R41). -/

namespace Sys2Proof

/-- Bytes that decode to a wire frame are the bytes of that frame (30_encoding.md R86, R90). -/
theorem encode_of_decodeFrame {bytes : List Byte} {i : Instr} (h : decodeFrame bytes = .ok i) :
    encode i = .frame bytes := by
  unfold decodeFrame at h
  split at h
  next unit fc rest =>
    split at h
    next l c htail =>
      have hbytes : frameBytes unit fc (rest.take (rest.length - 2)) (be16 c l) = unit :: fc :: rest := by
        simp only [frameBytes, lo_be16, hi_be16, ← htail, List.take_append_drop]
      have hfc (n : Nat) (hn : n < 256) (h : fc.toNat = n) : fc = BitVec.ofNat 8 n := by bv_omega
      unfold decodeParts at h
      split at h
      next hcode =>
        split at h <;> cases h
        exact hbytes ▸ hfc 0x03 (by decide) hcode ▸ rfl
      next hcode =>
        split at h <;> cases h
        exact hbytes ▸ hfc 0x10 (by decide) hcode ▸ rfl
      next hcode =>
        split at h <;> cases h
        next hbody => exact hbytes ▸ hbody ▸ hfc 0x83 (by decide) hcode ▸ rfl
      next hcode =>
        split at h <;> cases h
        next hbody => exact hbytes ▸ hbody ▸ hfc 0x90 (by decide) hcode ▸ rfl
      next => cases h
    next => cases h
  next => cases h

end Sys2Proof

namespace Sys2Proof.Machine

/-- The bytes are an exception reply: the only frames the block receives and never sends (30_encoding.md R89). -/
def isExceptionFrame (bytes : List Byte) : Bool :=
  match decodeFrame bytes with
  | .ok (.rtuReadException _ _ _) | .ok (.rtuWriteException _ _ _) => true
  | _ => false

/-- The state a block step leads to (R150). Bytes in TXBUF that are no request are not sent (log 7); no run has any. -/
def State.blockNext (s : State) : State :=
  match s.status.state with
  | .idle => s
  | .sending => if isExceptionFrame s.txBytes then s.receive s.txBytes else s.sendStep s.txBytes
  | .awaiting => s.pollStep
  | .validating => s.validateStep s.rxBytes

section BlockStep
variable (s : State)

/-- The meaning of a frame that decodes (R89): bytes that are no frame have the same two steps (R93). -/
theorem exec_of_decodeFrame {frame : List Byte} {i : Instr} (h : decodeFrame frame = .ok i) :
    exec i s = .next (if isExceptionFrame frame then s.replyOnly frame else s.requestOrReply frame) := by
  have henc := encode_of_decodeFrame h
  rw [isExceptionFrame, h]
  cases i with
  | rtuReadHoldingRegisters | rtuReadException | rtuWriteMultipleRegisters | rtuWriteException => cases henc; rfl
  | _ => cases henc

theorem runFrame_sending (frame : List Byte) (h : s.status.state = .sending) :
    runFrame s frame (s.sendStep frame) =
      .next (if isExceptionFrame frame then s.receive frame else s.sendStep frame) := by
  rcases runFrame_cases s frame (s.sendStep frame) with ⟨i, hd, heq⟩ | ⟨e, hd, heq⟩
  · rw [heq, exec_of_decodeFrame s hd, State.replyOnly, State.requestOrReply, h]
  · rw [heq, isExceptionFrame, hd]
    rfl

theorem runFrame_validating (frame : List Byte) (h : s.status.state = .validating) :
    runFrame s frame (s.validateStep frame) = .next (s.validateStep frame) := by
  rcases runFrame_cases s frame (s.validateStep frame) with ⟨i, hd, heq⟩ | ⟨e, hd, heq⟩
  · rw [heq, exec_of_decodeFrame s hd, State.replyOnly, State.requestOrReply, h, ite_self]
  · exact heq

theorem blockStep_eq : blockStep s = .next s.blockNext := by
  unfold blockStep State.blockNext
  cases h : s.status.state with
  | idle | awaiting => rfl
  | sending => exact runFrame_sending s _ h
  | validating => exact runFrame_validating s _ h

theorem takeInput_block : takeInput s .block = .next s.blockNext := blockStep_eq s

/-- With no input left the block takes a turn of its own (log 4). -/
theorem step_of_inputs_nil (h : s.inputs = []) : step s = takeInput s .block := by
  simp only [step, h, takeInput]

/-! ### What a block step does not touch -/

/-- The registers of the host's side that no block step reads or writes, with other values in them. -/
def State.withHostSide (cmd arg : Reg) (session : Session) (fault : FaultBits) : State :=
  { s with cmd := cmd, arg := arg, session := session, fault := fault }

variable (cmd arg : Reg) (session : Session) (fault : FaultBits)

theorem onFailRunning_withHostSide :
    (s.withHostSide cmd arg session fault).onFailRunning = s.onFailRunning.withHostSide cmd arg session fault := by
  have hrun : (s.withHostSide cmd arg session fault).running = s.running := rfl
  unfold State.onFailRunning
  rw [hrun]
  cases s.running with
  | error e => rfl
  | ok i => cases i <;> rfl

theorem commitRunning_withHostSide :
    (s.withHostSide cmd arg session fault).commitRunning = s.commitRunning.withHostSide cmd arg session fault := by
  have hrun : (s.withHostSide cmd arg session fault).running = s.running := rfl
  unfold State.commitRunning
  rw [hrun]
  cases s.running with
  | error e => rfl
  | ok i => cases i <;> rfl

theorem endFail_withHostSide (e : CmdError) (x : Byte) :
    (s.withHostSide cmd arg session fault).endFail State.onFailRunning e x =
      (s.endFail State.onFailRunning e x).withHostSide cmd arg session fault := by
  simp only [State.endFail, onFailRunning_withHostSide]
  rfl

theorem startTxn_withHostSide (k : Nat) (d : TxnDesc) :
    (s.withHostSide cmd arg session fault).startTxn State.onFailRunning k d =
      (s.startTxn State.onFailRunning k d).withHostSide cmd arg session fault := by
  unfold State.startTxn
  rw [show (s.withHostSide cmd arg session fault).link = s.link from rfl]
  split
  · rfl
  · exact endFail_withHostSide (s.atTxn k) cmd arg session fault .notOpen 0

theorem sendStep_withHostSide (frame : List Byte) :
    (s.withHostSide cmd arg session fault).sendStep frame =
      (s.sendStep frame).withHostSide cmd arg session fault := by
  have hlink : (s.withHostSide cmd arg session fault).link = s.link := rfl
  simp only [State.sendStep, hlink]
  cases s.link.discard.send frame with
  | none => exact endFail_withHostSide { s with link := s.link.discard } cmd arg session fault .sendFailed 0
  | some l => rfl

theorem pollStep_withHostSide :
    (s.withHostSide cmd arg session fault).pollStep = s.pollStep.withHostSide cmd arg session fault := by
  have htake : (s.withHostSide cmd arg session fault).takeBytes =
    s.takeBytes.withHostSide cmd arg session fault := rfl
  have htr : (s.takeBytes.withHostSide cmd arg session fault).tr = s.takeBytes.tr := rfl
  have hcount : (s.takeBytes.withHostSide cmd arg session fault).rxCount = s.takeBytes.rxCount := rfl
  have hbytes : (s.takeBytes.withHostSide cmd arg session fault).rxBytes = s.takeBytes.rxBytes := rfl
  simp only [State.pollStep, htake, htr, hcount, hbytes]
  split
  · rfl
  · split
    · exact endFail_withHostSide s.takeBytes cmd arg session fault .replyIncomplete 0
    · rfl

theorem validateStep_withHostSide (rx : List Byte) :
    (s.withHostSide cmd arg session fault).validateStep rx =
      (s.validateStep rx).withHostSide cmd arg session fault := by
  have htr : (s.withHostSide cmd arg session fault).tr = s.tr := rfl
  simp only [State.validateStep, htr]
  cases s.tr.validate rx with
  | error p => exact endFail_withHostSide s cmd arg session fault p.1 p.2
  | ok w =>
    have hstage : (s.withHostSide cmd arg session fault).stageWords s.seq.idx.toNat w =
      (s.stageWords s.seq.idx.toNat w).withHostSide cmd arg session fault := rfl
    have hidx : (s.withHostSide cmd arg session fault).seq = s.seq := rfl
    have htd : ((s.stageWords s.seq.idx.toNat w).withHostSide cmd arg session fault).td = s.td := rfl
    simp only [hidx, hstage, htd, State.stageWords_td]
    cases s.td[s.seq.idx.toNat + 1]? with
    | some d => exact startTxn_withHostSide _ cmd arg session fault _ d
    | none =>
      simp only [commitRunning_withHostSide]
      rfl

theorem blockNext_withHostSide :
    (s.withHostSide cmd arg session fault).blockNext = s.blockNext.withHostSide cmd arg session fault := by
  have hstatus : (s.withHostSide cmd arg session fault).status = s.status := rfl
  have htx : (s.withHostSide cmd arg session fault).txBytes = s.txBytes := rfl
  have hrx : (s.withHostSide cmd arg session fault).rxBytes = s.rxBytes := rfl
  simp only [State.blockNext, hstatus, htx, hrx]
  cases s.status.state with
  | idle => rfl
  | sending =>
    dsimp only
    split
    · rfl
    · exact sendStep_withHostSide s cmd arg session fault _
  | awaiting => exact pollStep_withHostSide s cmd arg session fault
  | validating => exact validateStep_withHostSide s cmd arg session fault _

theorem blockNext_fault : s.blockNext.fault = s.fault := by
  calc s.blockNext.fault
      = (s.withHostSide s.cmd s.arg s.session s.fault).blockNext.fault := rfl
    _ = s.fault := by rw [blockNext_withHostSide]; rfl

end BlockStep

/-- Settles O37: a block step commutes with a change of the host's registers. -/
theorem laterStepsReadOnlyLatchedOperands : Obligations.LaterStepsReadOnlyLatchedOperands := by
  intro s t cmd arg session hin hstep
  rw [step_of_inputs_nil s hin, takeInput_block] at hstep
  cases hstep
  calc step (s.withHostSide cmd arg session s.fault)
      = .next (s.withHostSide cmd arg session s.fault).blockNext :=
        (step_of_inputs_nil (s.withHostSide cmd arg session s.fault) hin).trans (takeInput_block _)
    _ = .next (s.blockNext.withHostSide cmd arg session s.blockNext.fault) := by
      rw [blockNext_withHostSide, blockNext_fault]

end Sys2Proof.Machine

/-! PROOF. FAULT is sticky (10_state.md R27): no command writes it, and host accesses only add to it. -/

namespace Sys2Proof

/-- A command word decodes to a command, never to a wire frame (30_encoding.md R82). -/
theorem encode_ne_frame_of_decodeFields {opc a : Byte} {b : Word} {arg : Reg} {i : Instr}
    (h : decodeFields opc a b arg = .ok i) (bytes : List Byte) : encode i ≠ .frame bytes := by
  unfold decodeFields at h
  split at h <;> cases h <;> exact nofun

end Sys2Proof

namespace Sys2Proof.Machine

section CommandsKeepFault
variable {s : State} {f : State → State}

theorem endFail_fault (hf : ∀ x, (f x).fault = x.fault) (e : CmdError) (x : Byte) :
    (s.endFail f e x).fault = s.fault := hf s

theorem startTxn_fault (hf : ∀ x, (f x).fault = x.fault) (k : Nat) (d : TxnDesc) :
    (s.startTxn f k d).fault = s.fault := by
  rcases s.startTxn_cases f k d with ⟨-, heq⟩ | ⟨-, heq⟩ <;> rw [heq]
  · rfl
  · exact endFail_fault hf .notOpen 0

theorem begin_fault (hf : ∀ x, (f x).fault = x.fault) (tds : List TxnDesc) : (s.begin f tds).fault = s.fault := by
  cases tds with
  | nil => rfl
  | cons d tds => exact startTxn_fault hf 0 d

theorem devAccept_fault (hf : ∀ x, (f x).fault = x.fault) (check : Except CmdError Unit)
    (tds : Byte → List TxnDesc) : (s.devAccept f check tds).fault = s.fault := by
  rcases s.devAccept_cases f check tds with ⟨e, -, heq⟩ | ⟨-, -, heq⟩ | ⟨-, -, heq⟩ <;> rw [heq]
  · rfl
  · rfl
  · exact begin_fault hf _

theorem writeAccept_fault (checked : Except CmdError Word) (addr : Word) :
    (s.writeAccept checked addr).fault = s.fault := by
  rcases s.writeAccept_cases checked addr with ⟨e, -, heq⟩ | ⟨v, -, -, heq⟩ | ⟨v, -, -, heq⟩ <;> rw [heq]
  · rfl
  · rfl
  · exact begin_fault (fun _ => rfl) _

theorem completeWord_fault (r : Except CmdError Word) : (s.completeWord r).fault = s.fault := by
  cases r <;> rfl

theorem exec_fault {t : State} {i : Instr} (hcmd : ∀ bytes, encode i ≠ .frame bytes)
    (h : exec i s = .next t) : t.fault = s.fault := by
  cases i with
  | voltDecode | thrDecode | baudDecode | maskDecode => cases h; rfl
  | voltEncode | thrEncode | baudEncode => cases h; exact completeWord_fault _
  | crcCalc | crcVerify | textDecode | frameReadReq | frameWriteReq => cases h; split <;> rfl
  | crcAppend =>
    cases h
    split
    · rfl
    · split <;> rfl
  | frameReadRsp =>
    cases h
    split
    · dsimp only
      split
      · rfl
      · split <;> rfl
    · rfl
  | frameWriteRsp =>
    cases h
    dsimp only
    split
    · rfl
    · split <;> rfl
  | regLookup => cases h; split <;> rfl
  | readHolding | writeMultiple =>
    cases h
    split
    · exact begin_fault (fun _ => rfl) _
    · rfl
  | readAllVoltages | readSingleVoltage => cases h; exact devAccept_fault (fun _ => rfl) _ _
  | readSnapshot => cases h; exact devAccept_fault State.snapOffline_fault _ _
  | writeDeviceAddress | writeBaudRate | writeIoDirection | writeIoValue | writeSetTemperature
  | writeDropThreshold => cases h; exact writeAccept_fault _ _
  | rtuReadHoldingRegisters | rtuReadException | rtuWriteMultipleRegisters | rtuWriteException =>
    exact absurd rfl (hcmd _)

end CommandsKeepFault

/-- Every bit of FAULT that is set in `f` is set in `g`. -/
def FaultBits.le (f g : FaultBits) : Prop :=
  (f.cmdOverrun = true → g.cmdOverrun = true) ∧ (f.busyWrite = true → g.busyWrite = true) ∧
    (f.badAccess = true → g.badAccess = true)

section FaultGrows
variable (s : State)

theorem fault_le_of_eq {f g : FaultBits} (h : g = f) : f.le g := h ▸ ⟨id, id, id⟩

theorem fault_le_badAccess : s.fault.le s.badAccess.fault := ⟨id, id, fun _ => rfl⟩

theorem fault_le_busyWrite : s.fault.le s.busyWrite.fault := ⟨id, fun _ => rfl, id⟩

theorem fault_le_cmdOverrun : s.fault.le s.cmdOverrun.fault := ⟨fun _ => rfl, id, id⟩

theorem fault_le_writable {t : State} (h : t.fault = s.fault) : s.fault.le (s.writable t).fault := by
  rcases s.writable_cases t with ⟨-, heq⟩ | ⟨-, heq⟩ <;> rw [heq]
  · exact fault_le_busyWrite s
  · exact fault_le_of_eq h

theorem fault_le_hostWrite (c : HostCell) (v : Reg) : s.fault.le (s.hostWrite c v).fault := by
  cases c with
  | cmd => exact fault_le_of_eq rfl
  | arg | sessionUnit | cfgIfdMs | cfgPollRetries | cfgPollIntervalMs | cfgTimeoutMs | buf | wbuf =>
    exact fault_le_writable s rfl
  | bufLen =>
    dsimp only [State.hostWrite]
    split
    · obtain ⟨hover, hbusy, -⟩ := fault_le_writable s.badAccess rfl
      exact ⟨hover, hbusy, fun _ => by
        rcases s.badAccess.writable_cases s.badAccess with ⟨-, heq⟩ | ⟨-, heq⟩ <;> rw [heq] <;> rfl⟩
    · exact fault_le_writable s rfl
  | status | result | fault | link | txLen | rxCount | seq | txbuf | rxbuf | vr | snap | unmapped =>
    exact fault_le_badAccess s

theorem fault_le_hostRead (index : BitVec 12) : s.fault.le (s.hostRead index).fault := by
  dsimp only [State.hostRead]
  split
  · exact fault_le_badAccess s
  · exact fault_le_of_eq rfl

theorem fault_le_issue {c : Reg} {t : State} (h : issue s c = .next t) : s.fault.le t.fault := by
  rcases issue_cases s c with ⟨-, heq⟩ | ⟨i, -, hdecode, heq⟩ | ⟨e, -, -, heq⟩ <;> rw [heq] at h
  · cases h; exact fault_le_cmdOverrun s
  · have hkept : t.fault = (s.accept c).fault := exec_fault (encode_ne_frame_of_decodeFields hdecode) h
    exact fault_le_of_eq (hkept.trans (s.accept_fault c))
  · cases h; exact fault_le_of_eq rfl

theorem fault_le_takeInput {i : Input} {t : State} (hreset : i ≠ .reset) (h : takeInput s i = .next t) :
    s.fault.le t.fault := by
  cases i with
  | hostWrite index v =>
    dsimp only [takeInput] at h
    split at h
    · exact fault_le_issue s h
    · cases h; exact fault_le_hostWrite s _ v
  | hostRead index => cases h; exact fault_le_hostRead s index
  | block =>
    rw [takeInput_block] at h
    cases h
    exact fault_le_of_eq (blockNext_fault s)
  | reset => exact absurd rfl hreset
  | linkReceive | linkDrain | linkOpen | linkRefuse | setTime => cases h; exact fault_le_of_eq rfl

end FaultGrows

/-- Settles O58, one turn at a time: only host accesses write FAULT, and they only set bits. -/
theorem faultBitsAreSticky : Obligations.FaultBitsAreSticky := by
  intro s t hreset hstep
  cases hin : s.inputs with
  | nil =>
    rw [step_of_inputs_nil s hin] at hstep
    exact fault_le_takeInput s (i := .block) nofun hstep
  | cons i rest =>
    rw [step_of_inputs_cons hin] at hstep
    exact fault_le_takeInput (s.nextTurn rest) (fun hi => hreset (by rw [hin, hi]; rfl)) hstep

end Sys2Proof.Machine

/-! PROOF. IDLE (70_reset_and_hazards.md R299) and the codes of STATUS (60_exceptions.md R250, R251). -/

namespace Sys2Proof.Machine

theorem blockNext_of_idle {s : State} (h : s.status.state = .idle) : s.blockNext = s := by
  simp only [State.blockNext, h]

theorem step_block {s : State} {rest : List Input} (h : s.inputs = .block :: rest) :
    step s = .next (s.nextTurn rest).blockNext :=
  (step_of_inputs_cons h).trans (takeInput_block _)

/-- Settles O9: no block step is enabled in IDLE, and nothing is cut off there. -/
theorem idleIsAFixedPoint : Obligations.IdleIsAFixedPoint := by
  intro s hidle
  have hnotAwaiting : s.status.state ≠ .awaiting := by simp [hidle]
  refine ⟨fun hin => ?_, fun rest hin => ?_, fun rest bytes hin => ?_, fun rest o hin => ?_,
    fun rest n hin => step_linkDrain hin, fun rest r hin => step_linkRefuse hin, fun rest v hin => step_setTime hin⟩
  · rw [step_of_inputs_nil s hin, takeInput_block, blockNext_of_idle hidle]
  · rw [step_block hin, blockNext_of_idle (s := s.nextTurn rest) hidle]
    rfl
  · exact step_linkReceive_of_not_isCut hin (State.isCut_eq_false_iff.mpr (.inl hnotAwaiting))
  · exact step_linkOpen_of_not_closing hin (.inl hnotAwaiting)

/-- The pairs of R251. -/
def errorPairs : List (CmdError × Nat × Nat) :=
  [(.notOpen, 1, 1), (.sendFailed, 1, 2), (.crcMismatch, 2, 1), (.address, 3, 1), (.functionCode, 3, 2),
    (.byteCount, 3, 3), (.exception, 4, 1), (.replyIncomplete, 5, 1), (.channel, 6, 1), (.deviceAddress, 6, 2),
    (.baud, 6, 3), (.count, 6, 4), (.value, 6, 5), (.registerId, 6, 6), (.baudUnsupported, 7, 1),
    (.lengthExceedsData, 8, 1), (.capacity, 8, 2), (.unassignedOpcode, 9, 1), (.sessionUnitUnset, 9, 2)]

theorem codes_of_mem_errorPairs :
    ∀ p ∈ errorPairs, p.1.kind.toNat = p.2.1 ∧ p.1.reason.toNat = p.2.2 := by decide

/-- The error whose pair is given. -/
def errorOfPair (kind reason : Nat) : Option CmdError :=
  (errorPairs.find? fun p => p.2 == (kind, reason)).map Prod.fst

theorem errorOfPair_codes (e : CmdError) : errorOfPair e.kind.toNat e.reason.toNat = some e := by
  cases e <;> rfl

/-- Settles O57: the codes are those of the table of R251, and the table read backwards gives the error again. -/
theorem statusCodes : Obligations.StatusCodes := by
  intro st
  refine ⟨fun p hp herr => ?_, fun herr => ?_, fun e e' hkind hreason => ?_, ?_⟩
  · simpa only [Status.errKind, Status.errReason, herr, Option.map_some, Option.getD_some]
      using codes_of_mem_errorPairs p hp
  · simp [Status.errKind, Status.errReason, herr]
  · have hsome := errorOfPair_codes e
    rw [hkind, hreason, errorOfPair_codes e'] at hsome
    exact (Option.some.inj hsome).symm
  · refine ⟨?_, ?_, ?_, ?_⟩ <;> intro h <;> rw [h] <;> rfl

end Sys2Proof.Machine

/-! PROOF. The register map of the HOST space (10_state.md R23, R44): what each index names, and which indices are
read-only or unmapped. -/

namespace Sys2Proof.Machine

/-- What the indices below 0x100 name. -/
def registerCell : Nat → HostCell
  | 0x000 => .cmd
  | 0x001 => .arg
  | 0x002 => .status
  | 0x003 => .result
  | 0x004 => .fault
  | 0x005 => .sessionUnit
  | 0x006 => .cfgIfdMs
  | 0x007 => .cfgPollRetries
  | 0x008 => .cfgPollIntervalMs
  | 0x009 => .cfgTimeoutMs
  | 0x00A => .link
  | 0x00B => .bufLen
  | 0x00C => .txLen
  | 0x00D => .rxCount
  | 0x00E => .seq
  | _ => .unmapped

/-- The indices R23 and R44 leave unmapped. -/
def IndexUnmapped (n : Nat) : Prop :=
  (0x00F ≤ n ∧ n ≤ 0x0FF) ∨ (0x208 ≤ n ∧ n ≤ 0x27F) ∨ (0x407 ≤ n ∧ n ≤ 0x4FF) ∨ (0x603 ≤ n ∧ n ≤ 0x6FF) ∨
    (0x811 ≤ n ∧ n ≤ 0x81F) ∨ 0x85F ≤ n

theorem registerCell_of_ge {n : Nat} (h : 15 ≤ n) : registerCell n = .unmapped := by
  unfold registerCell
  split
  any_goals omega
  rfl

section HostMap
variable {i : BitVec 12}

theorem hostCell_eq (i : BitVec 12) :
    hostCell i =
      if i.toNat < 0x100 then registerCell i.toNat
      else if i.toNat < 0x208 then .buf (i.toNat - 0x100)
      else if 0x280 ≤ i.toNat ∧ i.toNat < 0x300 then .wbuf (i.toNat - 0x280)
      else if 0x300 ≤ i.toNat ∧ i.toNat < 0x407 then .txbuf (i.toNat - 0x300)
      else if 0x500 ≤ i.toNat ∧ i.toNat < 0x603 then .rxbuf (i.toNat - 0x500)
      else if 0x700 ≤ i.toNat ∧ i.toNat < 0x800 then .vr ((i.toNat - 0x700) / 8) ((i.toNat - 0x700) % 8)
      else if 0x800 ≤ i.toNat ∧ snapMapped (i.toNat - 0x800) = true then .snap (i.toNat - 0x800)
      else .unmapped := rfl

theorem hostCell_register (h : i.toNat < 0x100) : hostCell i = registerCell i.toNat := by
  rw [hostCell_eq, if_pos h]

theorem hostCell_buf {k : Nat} (h : i.toNat = 0x100 + k) (hk : k < 264) : hostCell i = .buf k := by
  rw [hostCell_eq, if_neg (by omega), if_pos (by omega), h, Nat.add_sub_cancel_left]

theorem hostCell_wbuf {k : Nat} (h : i.toNat = 0x280 + k) (hk : k < 128) : hostCell i = .wbuf k := by
  rw [hostCell_eq, if_neg (by omega), if_neg (by omega), if_pos (by omega), h, Nat.add_sub_cancel_left]

theorem hostCell_txbuf {k : Nat} (h : i.toNat = 0x300 + k) (hk : k < 263) : hostCell i = .txbuf k := by
  rw [hostCell_eq, if_neg (by omega), if_neg (by omega), if_neg (by omega), if_pos (by omega), h,
    Nat.add_sub_cancel_left]

theorem hostCell_rxbuf {k : Nat} (h : i.toNat = 0x500 + k) (hk : k < 259) : hostCell i = .rxbuf k := by
  rw [hostCell_eq, if_neg (by omega), if_neg (by omega), if_neg (by omega), if_neg (by omega), if_pos (by omega), h,
    Nat.add_sub_cancel_left]

theorem hostCell_vr {c f : Nat} (h : i.toNat = 0x700 + 8 * c + f) (hc : c < 32) (hf : f < 8) :
    hostCell i = .vr c f := by
  rw [hostCell_eq, if_neg (by omega), if_neg (by omega), if_neg (by omega), if_neg (by omega), if_neg (by omega),
    if_pos (by omega), show (i.toNat - 0x700) / 8 = c by omega, show (i.toNat - 0x700) % 8 = f by omega]

theorem snapMapped_iff (f : Nat) : snapMapped f = true ↔ f ≤ 0x10 ∨ (0x20 ≤ f ∧ f ≤ 0x5E) := by
  simp only [snapMapped, Bool.or_eq_true, Bool.and_eq_true, decide_eq_true_eq]

theorem hostCell_snap {f : Nat} (h : i.toNat = 0x800 + f) (hf : f ≤ 0x10 ∨ (0x20 ≤ f ∧ f ≤ 0x5E)) :
    hostCell i = .snap f := by
  rw [hostCell_eq, if_neg (by omega), if_neg (by omega), if_neg (by omega), if_neg (by omega), if_neg (by omega),
    if_neg (by omega), if_pos ⟨by omega, (snapMapped_iff _).mpr (by omega)⟩, h, Nat.add_sub_cancel_left]

theorem hostCell_unmapped (h : IndexUnmapped i.toNat) : hostCell i = .unmapped := by
  unfold IndexUnmapped at h
  by_cases hlow : i.toNat < 0x100
  · rw [hostCell_register hlow, registerCell_of_ge (by omega)]
  · have hsnap : ¬(0x800 ≤ i.toNat ∧ snapMapped (i.toNat - 0x800) = true) := by
      rw [snapMapped_iff]
      omega
    rw [hostCell_eq, if_neg (by omega), if_neg (by omega), if_neg (by omega), if_neg (by omega), if_neg (by omega),
      if_neg (by omega), if_neg hsnap]

/-- What index `n` names, with the cell's number in its buffer or bank. -/
inductive IndexNames (n : Nat) : HostCell → Prop
  | register {c : HostCell} (hn : n < 15) (hc : c = registerCell n) : IndexNames n c
  | buf {k : Nat} (hn : n = 0x100 + k) (hk : k < 264) : IndexNames n (.buf k)
  | wbuf {k : Nat} (hn : n = 0x280 + k) (hk : k < 128) : IndexNames n (.wbuf k)
  | txbuf {k : Nat} (hn : n = 0x300 + k) (hk : k < 263) : IndexNames n (.txbuf k)
  | rxbuf {k : Nat} (hn : n = 0x500 + k) (hk : k < 259) : IndexNames n (.rxbuf k)
  | vr {c f : Nat} (hn : n = 0x700 + 8 * c + f) (hc : c < 32) (hf : f < 8) : IndexNames n (.vr c f)
  | snap {f : Nat} (hn : n = 0x800 + f) (hf : f ≤ 0x10 ∨ (0x20 ≤ f ∧ f ≤ 0x5E)) : IndexNames n (.snap f)
  | unmapped (hn : IndexUnmapped n) : IndexNames n .unmapped

theorem indexNames_hostCell (i : BitVec 12) : IndexNames i.toNat (hostCell i) := by
  by_cases hun : IndexUnmapped i.toNat
  · exact hostCell_unmapped hun ▸ .unmapped hun
  have hmapped := hun
  unfold IndexUnmapped at hmapped
  by_cases h1 : i.toNat < 15
  · exact .register h1 (hostCell_register (by omega))
  by_cases h2 : i.toNat < 0x208
  · have hn : i.toNat = 0x100 + (i.toNat - 0x100) := by omega
    exact hostCell_buf hn (by omega) ▸ .buf hn (by omega)
  by_cases h3 : i.toNat < 0x300
  · have hn : i.toNat = 0x280 + (i.toNat - 0x280) := by omega
    exact hostCell_wbuf hn (by omega) ▸ .wbuf hn (by omega)
  by_cases h4 : i.toNat < 0x407
  · have hn : i.toNat = 0x300 + (i.toNat - 0x300) := by omega
    exact hostCell_txbuf hn (by omega) ▸ .txbuf hn (by omega)
  by_cases h5 : i.toNat < 0x603
  · have hn : i.toNat = 0x500 + (i.toNat - 0x500) := by omega
    exact hostCell_rxbuf hn (by omega) ▸ .rxbuf hn (by omega)
  by_cases h6 : i.toNat < 0x800
  · have hn : i.toNat = 0x700 + 8 * ((i.toNat - 0x700) / 8) + (i.toNat - 0x700) % 8 := by omega
    exact hostCell_vr hn (by omega) (by omega) ▸ .vr hn (by omega) (by omega)
  · have hn : i.toNat = 0x800 + (i.toNat - 0x800) := by omega
    exact hostCell_snap hn (by omega) ▸ .snap hn (by omega)

/-- A register or a cell that the host cannot write (R23), or no register at all. -/
def HostCell.readOnly : HostCell → Bool
  | .status | .result | .fault | .link | .txLen | .rxCount | .seq => true
  | .txbuf _ | .rxbuf _ | .vr _ _ | .snap _ | .unmapped => true
  | .cmd | .arg | .sessionUnit | .cfgIfdMs | .cfgPollRetries | .cfgPollIntervalMs | .cfgTimeoutMs => false
  | .bufLen | .buf _ | .wbuf _ => false

theorem registerCell_readOnly_iff {n : Nat} (h : n < 15) :
    (registerCell n).readOnly = true ↔ (2 ≤ n ∧ n ≤ 4) ∨ n = 10 ∨ 12 ≤ n := by
  interval_cases n <;> decide

theorem hostCell_readOnly_iff :
    (hostCell i).readOnly = true ↔
      (2 ≤ i.toNat ∧ i.toNat ≤ 4) ∨ i.toNat = 10 ∨ (12 ≤ i.toNat ∧ i.toNat ≤ 0xFF) ∨
      (0x208 ≤ i.toNat ∧ i.toNat ≤ 0x27F) ∨ 0x300 ≤ i.toNat := by
  have hnames := indexNames_hostCell i
  generalize hostCell i = c at hnames ⊢
  cases hnames with
  | register hn hc =>
    rw [hc, registerCell_readOnly_iff hn]
    omega
  | unmapped hn =>
    unfold IndexUnmapped at hn
    simp only [HostCell.readOnly, true_iff]
    omega
  | buf hn hk | wbuf hn hk | txbuf hn hk | rxbuf hn hk | vr hn hk hf | snap hn hf =>
    simp only [HostCell.readOnly, true_iff, Bool.false_eq_true, false_iff]
    omega

theorem registerCell_ne (n k : Nat) : registerCell n ≠ .buf k ∧ registerCell n ≠ .wbuf k := by
  unfold registerCell
  split <;> exact ⟨nofun, nofun⟩

theorem registerCell_ne_unmapped {n : Nat} (h : n < 15) : registerCell n ≠ .unmapped := by
  interval_cases n <;> exact nofun

theorem hostCell_eq_unmapped_iff : hostCell i = .unmapped ↔ IndexUnmapped i.toNat := by
  refine ⟨fun h => ?_, hostCell_unmapped⟩
  have hnames := indexNames_hostCell i
  rw [h] at hnames
  cases hnames with
  | register hn hc => exact absurd hc.symm (registerCell_ne_unmapped hn)
  | unmapped hn => exact hn

theorem lt_of_hostCell_buf {k : Nat} (h : hostCell i = .buf k) : k < 264 := by
  have hnames := indexNames_hostCell i
  rw [h] at hnames
  cases hnames with
  | register hn hc => exact absurd hc.symm (registerCell_ne _ k).1
  | buf hn hk => exact hk

theorem lt_of_hostCell_wbuf {k : Nat} (h : hostCell i = .wbuf k) : k < 128 := by
  have hnames := indexNames_hostCell i
  rw [h] at hnames
  cases hnames with
  | register hn hc => exact absurd hc.symm (registerCell_ne _ k).2
  | wbuf hn hk => exact hk

end HostMap
end Sys2Proof.Machine

/-! PROOF. Host writes (10_state.md R21 to R39, 60_exceptions.md R261, R262): which are refused, and what the others
do. -/

namespace Sys2Proof.Machine

section HostWrites
variable {s : State} {i : BitVec 12} {v : Reg} {rest : List Input} {c : HostCell}

theorem step_hostWrite (hin : s.inputs = .hostWrite i v :: rest) (hi : hostCell i = c) (hc : c ≠ .cmd) :
    step s = .next ((s.nextTurn rest).hostWrite c v) := by
  subst hi
  rw [step_of_inputs_cons hin, takeInput, if_neg hc]

theorem step_hostWrite_cmd (hin : s.inputs = .hostWrite 0 v :: rest) : step s = issue (s.nextTurn rest) v :=
  step_of_inputs_cons hin

theorem issue_of_busy (h : s.status.busy = true) : issue s v = .next s.cmdOverrun := by
  rw [issue, if_pos h]

theorem writable_of_busy (h : s.status.busy = true) (t : State) : s.writable t = s.busyWrite := by
  rw [State.writable, if_pos h]

theorem writable_of_idle (h : s.status.busy = false) (t : State) : s.writable t = t := by
  rw [State.writable, if_neg (Bool.eq_false_iff.mp h)]

theorem hostWrite_of_readOnly (h : c.readOnly = true) : s.hostWrite c v = s.badAccess := by
  cases c with
  | status | result | fault | link | txLen | rxCount | seq | txbuf | rxbuf | vr | snap | unmapped => rfl
  | cmd | arg | sessionUnit | cfgIfdMs | cfgPollRetries | cfgPollIntervalMs | cfgTimeoutMs | bufLen | buf | wbuf =>
    cases h

theorem hostWrite_bufLen_of_gt (h : 264 < v.toNat) : s.hostWrite .bufLen v = s.badAccess.writable s.badAccess := by
  rw [State.hostWrite, if_pos h]

theorem hostWrite_bufLen_of_le (h : v.toNat ≤ 264) :
    s.hostWrite .bufLen v = s.writable { s with bufLen := v.setWidth 9 } := by
  rw [State.hostWrite, if_neg (Nat.not_lt.mpr h)]

theorem hostWrite_of_busy (hbusy : s.status.busy = true) (hrw : c.readOnly = false) (hcmd : c ≠ .cmd)
    (hlen : c = .bufLen → v.toNat ≤ 264) : s.hostWrite c v = s.busyWrite := by
  cases c with
  | bufLen => rw [hostWrite_bufLen_of_le (hlen rfl), writable_of_busy hbusy]
  | cmd => exact absurd rfl hcmd
  | arg | sessionUnit | cfgIfdMs | cfgPollRetries | cfgPollIntervalMs | cfgTimeoutMs | buf | wbuf =>
    exact writable_of_busy hbusy _
  | status | result | fault | link | txLen | rxCount | seq | txbuf | rxbuf | vr | snap | unmapped => cases hrw

/-- Settles O53, one clause of refusal at a time. -/
theorem refusedHostWrites : Obligations.RefusedHostWrites := by
  rintro s i v rest _ hin rfl
  refine ⟨fun hi (hbusy : (s.nextTurn rest).status.busy = true) => ?overrun,
    fun hi (hbusy : (s.nextTurn rest).status.busy = true) => ?busyWrite, fun hi => ?readOnly,
    fun hi hv (hidle : (s.nextTurn rest).status.busy = false) => ?tooLong,
    fun hi hv (hbusy : (s.nextTurn rest).status.busy = true) => ?tooLongBusy⟩
  case overrun =>
    subst hi
    rw [step_hostWrite_cmd hin, issue_of_busy hbusy]
    rfl
  case busyWrite =>
    have hrefused (c : HostCell) (hcell : hostCell i = c) (hrw : c.readOnly = false) (hcmd : c ≠ .cmd)
        (hlen : c = .bufLen → v.toNat ≤ 264) : step s = .next (s.nextTurn rest).busyWrite := by
      rw [step_hostWrite hin hcell hcmd, hostWrite_of_busy hbusy hrw hcmd hlen]
    rcases hi with rfl | ⟨hlo, hhi⟩ | ⟨rfl, hv⟩ | ⟨hlo, hhi⟩ | ⟨hlo, hhi⟩
    · exact hrefused .arg rfl rfl nofun nofun
    · have hregister : hostCell i = registerCell i.toNat := hostCell_register (by omega)
      interval_cases i.toNat <;> exact hrefused _ hregister rfl nofun nofun
    · exact hrefused .bufLen rfl rfl nofun fun _ => hv
    · exact hrefused (.buf (i.toNat - 0x100)) (hostCell_buf (by omega) (by omega)) rfl nofun nofun
    · exact hrefused (.wbuf (i.toNat - 0x280)) (hostCell_wbuf (by omega) (by omega)) rfl nofun nofun
  case readOnly =>
    have hro : (hostCell i).readOnly = true := hostCell_readOnly_iff.mpr (by bv_omega)
    have hcmd : hostCell i ≠ .cmd := fun h => by rw [h] at hro; cases hro
    rw [step_hostWrite hin rfl hcmd, hostWrite_of_readOnly hro]
    rfl
  case tooLong =>
    subst hi
    rw [step_hostWrite hin (c := .bufLen) rfl nofun, hostWrite_bufLen_of_gt hv,
      writable_of_idle (s := (s.nextTurn rest).badAccess) hidle]
    rfl
  case tooLongBusy =>
    subst hi
    rw [step_hostWrite hin (c := .bufLen) rfl nofun, hostWrite_bufLen_of_gt hv,
      writable_of_busy (s := (s.nextTurn rest).badAccess) hbusy]
    rfl

/-- Settles O54: while BUSY is 0 a write of a RW register or cell is done, and the write of a cell is read back. -/
theorem hostWriteEffects : Obligations.HostWriteEffects := by
  rintro s i v rest _ hin rfl hidle
  have hdone (t : State) : (s.nextTurn rest).writable t = t :=
    writable_of_idle (s := s.nextTurn rest) hidle t
  have hwrite {c : HostCell} (hcell : hostCell i = c) (hcmd : c ≠ .cmd) :
      step s = .next ((s.nextTurn rest).hostWrite c v) := step_hostWrite hin hcell hcmd
  have hregister {c : HostCell} {t : State} (hcell : hostCell i = c) (hcmd : c ≠ .cmd)
      (ht : (s.nextTurn rest).hostWrite c v = (s.nextTurn rest).writable t) : step s = .next t := by
    rw [hwrite hcell hcmd, ht, hdone]
  refine ⟨?arg, ?sessionUnit, ?cfgIfdMs, ?cfgPollRetries, ?cfgPollIntervalMs, ?cfgTimeoutMs, ?bufLen, ?buf, ?wbuf⟩
  case arg | sessionUnit | cfgIfdMs | cfgPollRetries | cfgPollIntervalMs | cfgTimeoutMs =>
    rintro rfl
    exact hregister rfl nofun rfl
  case bufLen =>
    rintro rfl hv
    exact hregister rfl nofun (hostWrite_bufLen_of_le hv)
  case buf =>
    intro hlo hhi
    exact ⟨cellSet (w := 8) (i.toNat - 0x100) (v.setWidth 8) s.buf, cellGet_cellSet_self _ _ _,
      fun a ha => cellGet_cellSet_other ha _ _, hregister (hostCell_buf (by omega) (by omega)) nofun rfl⟩
  case wbuf =>
    intro hlo hhi
    exact ⟨cellSet (i.toNat - 0x280) (v.setWidth 16) s.wbuf, cellGet_cellSet_self _ _ _,
      fun a ha => cellGet_cellSet_other ha _ _, hregister (hostCell_wbuf (by omega) (by omega)) nofun rfl⟩

end HostWrites
end Sys2Proof.Machine

/-! PROOF. Host reads (10_state.md R21 to R44, 20_memory.md R63): what they change, and the numbers they return. -/

namespace Sys2Proof.Machine

section HostReads
variable {s t : State} {i : BitVec 12} {rest : List Input}

theorem step_hostRead (hin : s.inputs = .hostRead i :: rest) : step s = .next ((s.nextTurn rest).hostRead i) :=
  step_of_inputs_cons hin

/-- Settles O55: a read sets BAD_ACCESS exactly when its index names no register. -/
theorem hostReadEffects : Obligations.HostReadEffects := by
  intro s i rest unmapped hin hunmapped
  rw [step_hostRead hin]
  refine ⟨((s.nextTurn rest).hostRead i).rdata, congrArg _ ?_⟩
  by_cases hcell : hostCell i = .unmapped
  · have hset : unmapped = true := hunmapped.mpr (hostCell_eq_unmapped_iff.mp hcell)
    simp only [State.hostRead, if_pos hcell, hset, Bool.or_true]
    rfl
  · have hclear : unmapped = false := Bool.eq_false_iff.mpr fun h => hcell (hostCell_unmapped (hunmapped.mp h))
    simp only [State.hostRead, if_neg hcell, hclear, Bool.or_false]
    rfl

theorem hostRead_rdata (s : State) (i : BitVec 12) :
    (s.hostRead i).rdata = (s.hostValue (hostCell i)).getD (s.free 32 i.toNat) := by
  unfold State.hostRead
  dsimp only
  split <;> rfl

theorem nextTurn_hostValue (s : State) (rest : List Input) (c : HostCell) :
    (s.nextTurn rest).hostValue c = s.hostValue c := by cases c <;> rfl

/-- A host read returns the value of the register its index names, if that register holds one. -/
theorem rdata_of_hostRead (hin : s.inputs = .hostRead i :: rest) (hstep : step s = .next t) {v : Reg}
    (hv : s.hostValue (hostCell i) = some v) : t.rdata = v := by
  obtain rfl : (s.nextTurn rest).hostRead i = t := Host.Outcome.next.inj ((step_hostRead hin).symm.trans hstep)
  rw [hostRead_rdata, nextTurn_hostValue, hv, Option.getD_some]

end HostReads
end Sys2Proof.Machine

/-! PROOF. Registers of several fields, as numbers: each field counts at its own place (10_state.md R21). -/

namespace Sys2Proof.Machine

/-- Fields that do not overlap add up: `y` lies below the place `2 ^ k` from which on `x` lies. -/
theorem toNat_or_of_disjoint {x y : Reg} {a b : Nat} (k : Nat) (hx : x.toNat = a) (hy : y.toNat = b)
    (ha : 2 ^ k ∣ a) (hb : b < 2 ^ k) : (x ||| y).toNat = a + b := by
  obtain ⟨q, rfl⟩ := ha
  rw [BitVec.toNat_or, hx, hy, Nat.two_pow_add_eq_or_of_lt hb]

theorem setWidth_toNat {w : Nat} (x : BitVec w) (hw : w ≤ 32) : (x.setWidth 32 : Reg).toNat = x.toNat :=
  BitVec.toNat_setWidth_of_le hw

theorem field_toNat {w : Nat} (x : BitVec w) (k : Nat) (hk : w + k ≤ 32) :
    (x.setWidth 32 <<< k : Reg).toNat = 2 ^ k * x.toNat := by
  have hlt : 2 ^ k * x.toNat < 2 ^ 32 :=
    calc 2 ^ k * x.toNat < 2 ^ k * 2 ^ w := Nat.mul_lt_mul_of_pos_left x.isLt (Nat.two_pow_pos k)
      _ = 2 ^ (w + k) := by rw [← Nat.pow_add, Nat.add_comm]
      _ ≤ 2 ^ 32 := Nat.pow_le_pow_right (by decide) hk
  rw [BitVec.toNat_shiftLeft, setWidth_toNat x (by omega), Nat.shiftLeft_eq, Nat.mul_comm, Nat.mod_eq_of_lt hlt]

theorem flagBit_toNat (b : Bool) (i : Nat) (hi : i < 32) : (flagBit b i).toNat = 2 ^ i * b.toNat := by
  cases b
  · rfl
  · have hlt : 2 ^ i < 2 ^ 32 := Nat.pow_lt_pow_right (by decide) hi
    simpa [flagBit, BitVec.toNat_shiftLeft, Nat.shiftLeft_eq] using hlt

theorem Session.word_toNat (x : Session) : x.word.toNat = x.unit.toNat + 2147483648 * x.valid.toNat := by
  have h := toNat_or_of_disjoint 8 (flagBit_toNat x.valid 31 (by decide)) (setWidth_toNat x.unit (by decide))
    (by omega) (by omega)
  rw [Session.word, h]
  omega

theorem Seq.word_toNat (q : Seq) : q.word.toNat = q.idx.toNat + 256 * q.total.toNat := by
  have h := toNat_or_of_disjoint 8 (field_toNat q.total 8 (by decide)) (setWidth_toNat q.idx (by decide))
    (by omega) (by omega)
  rw [Seq.word, h]
  omega

theorem FaultBits.word_toNat (f : FaultBits) :
    f.word.toNat = f.cmdOverrun.toNat + 2 * f.busyWrite.toNat + 4 * f.badAccess.toNat := by
  have hbusy := Bool.toNat_lt f.busyWrite
  have hover := Bool.toNat_lt f.cmdOverrun
  have h := toNat_or_of_disjoint 1 (toNat_or_of_disjoint 2 (flagBit_toNat f.badAccess 2 (by decide))
    (flagBit_toNat f.busyWrite 1 (by decide)) (by omega) (by omega)) (flagBit_toNat f.cmdOverrun 0 (by decide))
    (by omega) (by omega)
  rw [FaultBits.word, h]
  omega

theorem Status.word_toNat (st : Status) :
    st.word.toNat =
      st.state.code.toNat + 16 * st.busy.toNat + 32 * st.done.toNat + 64 * st.ok.toNat + 128 * st.allFf.toNat +
        256 * st.errKind.toNat + 4096 * st.errReason.toNat + 65536 * st.excCode.toNat +
        16777216 * st.retriesLeft.toNat := by
  have hff := Bool.toNat_lt st.allFf
  have hok := Bool.toNat_lt st.ok
  have hdone := Bool.toNat_lt st.done
  have hbusy := Bool.toNat_lt st.busy
  have h8 := toNat_or_of_disjoint 24 (field_toNat st.retriesLeft 24 (by decide))
    (field_toNat st.excCode 16 (by decide)) (by omega) (by omega)
  have h7 := toNat_or_of_disjoint 16 h8 (field_toNat st.errReason 12 (by decide)) (by omega) (by omega)
  have h6 := toNat_or_of_disjoint 12 h7 (field_toNat st.errKind 8 (by decide)) (by omega) (by omega)
  have h5 := toNat_or_of_disjoint 8 h6 (flagBit_toNat st.allFf 7 (by decide)) (by omega) (by omega)
  have h4 := toNat_or_of_disjoint 7 h5 (flagBit_toNat st.ok 6 (by decide)) (by omega) (by omega)
  have h3 := toNat_or_of_disjoint 6 h4 (flagBit_toNat st.done 5 (by decide)) (by omega) (by omega)
  have h2 := toNat_or_of_disjoint 5 h3 (flagBit_toNat st.busy 4 (by decide)) (by omega) (by omega)
  have h1 := toNat_or_of_disjoint 4 h2 (setWidth_toNat st.state.code (by decide)) (by omega) (by omega)
  rw [Status.word, h1]
  omega

/-- An all-FF flag beside the length of a text (R44). -/
theorem textInfo_toNat {w : Nat} (b : Bool) (n : BitVec w) (hw : w ≤ 8) :
    (flagBit b 8 ||| n.setWidth 32 : Reg).toNat = n.toNat + 256 * b.toNat := by
  have hn : n.toNat < 2 ^ 8 := Nat.lt_of_lt_of_le n.isLt (Nat.pow_le_pow_right (by decide) hw)
  have h := toNat_or_of_disjoint 8 (flagBit_toNat b 8 (by decide)) (setWidth_toNat n (by omega)) (by omega) hn
  omega

end Sys2Proof.Machine

/-! PROOF. What a host read returns (10_state.md R21 to R44). -/

namespace Sys2Proof.Machine

section Banks

theorem hostValue_vr (s : State) {c : Nat} (hc : c < 32) (f : Nat) : s.hostValue (.vr c f) = (s.vr[c]).register f := by
  simp [State.hostValue, hc]

theorem register_of_written {b : Snapshot} (h : b.written = true) (f : Nat) : b.register f = some (b.field f) :=
  if_pos (.inr h)

theorem register_online (b : Snapshot) : b.register 0 = some (flagBit b.online 0) := if_pos (.inl rfl)

theorem field_text (b : Snapshot) {f : Nat} (hf : 0x20 ≤ f) :
    b.field f =
      if f < 0x40 then (b.nameW.toList.getD (f - 0x20) 0).setWidth 32
      else (b.serialW.toList.getD (f - 0x40) 0).setWidth 32 := by
  unfold Snapshot.field
  split
  any_goals omega
  rfl

theorem field_name (b : Snapshot) {k : Nat} (hk : k < 32) : b.field (0x20 + k) = (b.nameW[k]).setWidth 32 := by
  rw [field_text b (by omega), if_pos (by omega), Nat.add_sub_cancel_left]
  simp [hk]

theorem field_serial (b : Snapshot) {k : Nat} (hk : k < 31) : b.field (0x40 + k) = (b.serialW[k]).setWidth 32 := by
  rw [field_text b (by omega), if_neg (by omega), Nat.add_sub_cancel_left]
  simp [hk]

end Banks

section HostReadValues
variable {s t : State} {i : BitVec 12} {rest : List Input}

theorem rdata_toNat_of_hostRead (hin : s.inputs = .hostRead i :: rest) (hstep : step s = .next t) {c : HostCell}
    {v : Reg} {n : Nat} (hcell : hostCell i = c) (hv : s.hostValue c = some v) (hn : v.toNat = n) :
    t.rdata.toNat = n := by
  subst hcell
  rw [rdata_of_hostRead hin hstep hv, hn]

/-- The same for an index given as a number. -/
theorem rdata_toNat_at_index (hin : s.inputs = .hostRead i :: rest) (hstep : step s = .next t) {n m : Nat} {v : Reg}
    (hv : s.hostValue (hostCell (BitVec.ofNat 12 n)) = some v) (hm : v.toNat = m) (hi : i.toNat = n) :
    t.rdata.toNat = m := by
  have hindex : BitVec.ofNat 12 n = i := by rw [← hi, BitVec.ofNat_toNat, BitVec.setWidth_eq]
  subst hindex
  exact rdata_toNat_of_hostRead hin hstep rfl hv hm

theorem snapshotFields_read (hin : s.inputs = .hostRead i :: rest) (hstep : step s = .next t)
    (hwritten : s.snap.written = true) :
    ∀ p ∈ [(0x801, s.snap.addr.toNat), (0x802, s.snap.versionRaw.toNat), (0x803, s.snap.baudCode.toNat),
        (0x804, s.snap.baud.toNat), (0x805, s.snap.ioDir.toNat), (0x806, s.snap.ioVal.toNat),
        (0x807, s.snap.dropMask.toNat), (0x808, s.snap.setTemp.toNat), (0x809, s.snap.curTemp.toNat),
        (0x80A, s.snap.fanMa.toNat), (0x80B, s.snap.acRaw.toNat), (0x80C, s.snap.acOn.toNat),
        (0x80D, s.snap.nameLen.toNat + 256 * s.snap.nameAllFf.toNat),
        (0x80E, s.snap.serialLen.toNat + 256 * s.snap.serialAllFf.toNat), (0x80F, s.snap.tsLo.toNat),
        (0x810, s.snap.tsHi.toNat)],
      i.toNat = p.1 → t.rdata.toNat = p.2 := by
  have hread {f m : Nat} (hf : f ≤ 0x10) (hm : (s.snap.field f).toNat = m) (hi : i.toNat = 0x800 + f) :
      t.rdata.toNat = m :=
    rdata_toNat_of_hostRead hin hstep (hostCell_snap hi (.inl hf)) (register_of_written hwritten f) hm
  have hword {f : Nat} {x : Word} (hf : f ≤ 0x10) (hx : s.snap.field f = x.setWidth 32) :
      i.toNat = 0x800 + f → t.rdata.toNat = x.toNat := hread hf (by rw [hx, setWidth_toNat x (by decide)])
  simp only [List.forall_mem_cons, List.not_mem_nil, IsEmpty.forall_iff, implies_true, and_true]
  exact ⟨hword (f := 1) (by decide) rfl, hword (f := 2) (by decide) rfl, hword (f := 3) (by decide) rfl,
    hread (f := 4) (by decide) rfl, hword (f := 5) (by decide) rfl, hword (f := 6) (by decide) rfl,
    hread (f := 7) (by decide) rfl, hword (f := 8) (by decide) rfl, hword (f := 9) (by decide) rfl,
    hword (f := 10) (by decide) rfl, hword (f := 11) (by decide) rfl,
    hread (f := 12) (by decide) ((flagBit_toNat _ 0 (by decide)).trans (Nat.one_mul _)),
    hread (f := 13) (by decide) (textInfo_toNat _ _ (by decide)),
    hread (f := 14) (by decide) (textInfo_toNat _ _ (by decide)),
    hread (f := 15) (by decide) rfl, hread (f := 16) (by decide) rfl⟩

/-- Settles O56: each index is looked up in the register map, and each register's fields are added up. -/
theorem hostReadValues : Obligations.HostReadValues := by
  intro s t i rest hin hstep
  have hread {c : HostCell} {v : Reg} {n : Nat} : hostCell i = c → s.hostValue c = some v → v.toNat = n →
      t.rdata.toNat = n := rdata_toNat_of_hostRead hin hstep
  have hat {n m : Nat} {v : Reg} : s.hostValue (hostCell (BitVec.ofNat 12 n)) = some v → v.toNat = m →
      i.toNat = n → t.rdata.toNat = m := rdata_toNat_at_index hin hstep
  have hflag (b : Bool) : (flagBit b 0).toNat = b.toNat := (flagBit_toNat b 0 (by decide)).trans (Nat.one_mul _)
  refine ⟨?registers, ?result, ?buf, ?wbuf, ?txbuf, ?rxbuf, ?vr, ?snap⟩
  case registers =>
    simp only [List.forall_mem_cons, List.not_mem_nil, IsEmpty.forall_iff, implies_true, and_true]
    exact ⟨hat rfl rfl, hat rfl rfl, hat rfl (Status.word_toNat _), hat rfl (FaultBits.word_toNat _),
      hat rfl (Session.word_toNat _), hat rfl (setWidth_toNat _ (by decide)), hat rfl (setWidth_toNat _ (by decide)),
      hat rfl (setWidth_toNat _ (by decide)), hat rfl (setWidth_toNat _ (by decide)), hat rfl (hflag _),
      hat rfl (setWidth_toNat _ (by decide)), hat rfl (setWidth_toNat _ (by decide)),
      hat rfl (setWidth_toNat _ (by decide)), hat rfl (Seq.word_toNat _)⟩
  case result =>
    rintro rfl hwritten
    exact rdata_of_hostRead hin hstep (if_pos hwritten)
  case buf =>
    intro k v hi hk hv
    exact hread (hostCell_buf hi hk) (congrArg (Option.map (BitVec.setWidth 32)) hv) (setWidth_toNat v (by decide))
  case wbuf =>
    intro k v hi hk hv
    exact hread (hostCell_wbuf hi hk) (congrArg (Option.map (BitVec.setWidth 32)) hv) (setWidth_toNat v (by decide))
  case txbuf =>
    intro k v hi hk hv
    exact hread (hostCell_txbuf hi hk) (congrArg (Option.map (BitVec.setWidth 32)) hv) (setWidth_toNat v (by decide))
  case rxbuf =>
    intro k v hi hk hv
    exact hread (hostCell_rxbuf hi hk) (congrArg (Option.map (BitVec.setWidth 32)) hv) (setWidth_toNat v (by decide))
  case vr =>
    rintro c hc e rfl
    refine ⟨fun hi => hread (hostCell_vr (f := 0) hi hc (by decide)) (hostValue_vr s hc 0) (hflag _), ?_,
      fun hvalid => ?_⟩
    · refine fun hi => BitVec.eq_of_toNat_eq ?_
      rcases hi with hi | hi
      · exact hread (hostCell_vr (f := 6) (by omega) hc (by decide)) (hostValue_vr s hc 6) rfl
      · exact hread (hostCell_vr (f := 7) (by omega) hc (by decide)) (hostValue_vr s hc 7) rfl
    · have hfield {f : Nat} {v : Reg} {n : Nat} (hf : f < 8) (hv : (s.vr[c]).register f = some v) (hn : v.toNat = n)
          (hi : i.toNat = 0x700 + 8 * c + f) : t.rdata.toNat = n :=
        hread (hostCell_vr hi hc hf) ((hostValue_vr s hc f).trans hv) hn
      simp only [List.forall_mem_cons, List.not_mem_nil, IsEmpty.forall_iff, implies_true, and_true]
      exact ⟨hfield (by decide) (if_pos hvalid) (setWidth_toNat _ (by decide)),
        hfield (by decide) (if_pos hvalid) rfl,
        hfield (by decide) (if_pos hvalid) (setWidth_toNat _ (by decide)),
        hfield (by decide) (if_pos hvalid) rfl, hfield (by decide) (if_pos hvalid) rfl⟩
  case snap =>
    rintro b rfl
    refine ⟨?_, fun hwritten => ⟨snapshotFields_read hin hstep hwritten, fun k hk hi => ?_, fun k hk hi => ?_⟩⟩
    · rintro rfl
      exact hread (hostCell_snap (f := 0) rfl (by decide)) (register_online _) (hflag _)
    · rw [← setWidth_toNat (s.snap.nameW[k]) (by decide), ← field_name _ hk]
      exact hread (hostCell_snap (f := 0x20 + k) (by omega) (by omega)) (register_of_written hwritten _) rfl
    · rw [← setWidth_toNat (s.snap.serialW[k]) (by decide), ← field_serial _ hk]
      exact hread (hostCell_snap (f := 0x40 + k) (by omega) (by omega)) (register_of_written hwritten _) rfl

end HostReadValues
end Sys2Proof.Machine

/-! PROOF. The invariant in parts: what the block stores, and STATUS; and the endings of a command
(60_exceptions.md R256, 42_rtu_transaction.md R160), which need no more than these parts. -/

namespace Sys2Proof.Machine

/-- The part of the invariant about the buffers and the banks (10_state.md R33 to R44). -/
structure Stored (s : State) : Prop where
  buf : Memory.wf Config.bufCap s.buf
  wbuf : Store.wf Config.wbufCap s.wbuf
  txbuf : Memory.wf Config.txbufCap s.txbuf
  rxbuf : Memory.wf Config.rxbufCap s.rxbuf
  bufLen : s.bufLen.toNat ≤ Config.bufCap
  txLen : s.txLen.toNat ≤ Config.txbufCap
  rxCount : s.rxCount.toNat ≤ Config.rxbufCap
  vr : ∀ e ∈ s.vr.toList, e.valid = true → e.uv = voltDecode e.raw
  snapOnline : s.snap.online = true → s.snap.written = true
  snapCoherent : s.snap.written = true → s.snap.coherent

/-- The part of the invariant about STATUS (10_state.md R26). -/
structure Status.Consistent (st : Status) : Prop where
  busy : st.busy = true ↔ st.state ≠ .idle
  done : st.busy = true → st.done = false
  ok : st.ok = true → st.done = true ∧ st.err = none
  err : st.err ≠ none → st.done = true
  excCode : st.err ≠ some .exception → st.excCode = 0
  retriesLeft : st.state ≠ .awaiting → st.retriesLeft = 0

/-- No command is running. -/
structure Status.AtRest (st : Status) : Prop where
  state : st.state = .idle
  busy : st.busy = false
  retriesLeft : st.retriesLeft = 0

/-- The outcome of the command is still open: its fields are as accepting it cleared them (R255). -/
structure Status.Unresolved (st : Status) : Prop where
  done : st.done = false
  ok : st.ok = false
  err : st.err = none
  excCode : st.excCode = 0

section Status
variable {st : Status}

theorem Status.Consistent.atRest (h : st.Consistent) (hbusy : st.busy = false) : st.AtRest := by
  have hidle : st.state = .idle := by
    by_contra hstate
    rw [h.busy.mpr hstate] at hbusy
    cases hbusy
  exact { state := hidle, busy := hbusy, retriesLeft := h.retriesLeft (by simp [hidle]) }

theorem Status.Consistent.unresolved (h : st.Consistent) (hbusy : st.busy = true) : st.Unresolved := by
  have hdone := h.done hbusy
  have herr : st.err = none := by
    by_contra herr
    rw [h.err herr] at hdone
    cases hdone
  have hok : st.ok = false := Bool.eq_false_iff.mpr fun hok => by
    rw [(h.ok hok).1] at hdone
    cases hdone
  exact { done := hdone, ok := hok, err := herr, excCode := h.excCode (by simp [herr]) }

theorem Status.idled_atRest (st : Status) : st.idled.AtRest := ⟨rfl, rfl, rfl⟩

theorem Status.cleared_unresolved (st : Status) : st.cleared.Unresolved := ⟨rfl, rfl, rfl, rfl⟩

theorem Status.AtRest.succeeded (h : st.AtRest) (hu : st.Unresolved) : st.succeeded.Consistent where
  busy := by simp [h.state, h.busy]
  done := by simp [h.busy]
  ok _ := ⟨rfl, hu.err⟩
  err _ := rfl
  excCode _ := hu.excCode
  retriesLeft _ := h.retriesLeft

theorem Status.AtRest.raised (h : st.AtRest) {e : CmdError} (hx : e = .exception ∨ st.excCode = 0) :
    (st.raised e).Consistent where
  busy := by simp [h.state, h.busy]
  done := by simp [h.busy]
  ok := by simp
  err _ := rfl
  excCode hne := hx.resolve_left fun he => hne (congrArg some he)
  retriesLeft _ := h.retriesLeft

end Status

section Parts
variable {s : State}

theorem Inv.stored (h : Inv s) : Stored s := { h with }

theorem Inv.consistent (h : Inv s) : s.status.Consistent := { h with }

/-- Outside a command the invariant is its two parts. -/
theorem inv_of_atRest (hs : Stored s) (hc : s.status.Consistent) (hr : s.status.AtRest) : Inv s :=
  { hs, hc with
    cut := fun h => by rw [hr.state] at h; cases h
    running := fun h => by rw [hr.busy] at h; cases h }

/-- While a command runs its outcome is open, so that STATUS has little to say. -/
theorem inv_of_running (hs : Stored s) (hu : s.status.Unresolved) (hbusy : s.status.busy = true)
    (hstate : s.status.state ≠ .idle) (hretries : s.status.state ≠ .awaiting → s.status.retriesLeft = 0)
    (hcut : s.status.state = .awaiting → s.link.isOpen = false → s.link.cut = true) (hrun : Running s) : Inv s :=
  { hs with
    busy := ⟨fun _ => hstate, fun _ => hbusy⟩
    done := fun _ => hu.done
    ok := fun hok => absurd (hu.ok.symm.trans hok) Bool.false_ne_true
    err := fun herr => absurd hu.err herr
    excCode := fun _ => hu.excCode
    retriesLeft := hretries
    cut := hcut
    running := fun _ => hrun }

/-- A failed command's ending (R160): `on_fail` need only keep what is stored. -/
theorem endFail_inv {f : State → State} {e : CmdError} {x : Byte} (hf : Stored (f s)) (hx : e = .exception ∨ x = 0) :
    Inv (s.endFail f e x) :=
  have hrest : ({ (f s).status.idled with excCode := x } : Status).AtRest := ⟨rfl, rfl, rfl⟩
  inv_of_atRest { hf with } (hrest.raised hx) ⟨rfl, rfl, rfl⟩

theorem endOk_inv (hs : Stored s) (hu : s.status.Unresolved) : Inv s.endOk :=
  have hunresolved : s.status.idled.Unresolved := { hu with }
  inv_of_atRest { hs with } (s.status.idled_atRest.succeeded hunresolved) ⟨rfl, rfl, rfl⟩

theorem snapOffline_stored (h : Stored s) : Stored s.snapOffline :=
  { h with
    snapOnline := nofun
    snapCoherent := fun hw => { h.snapCoherent hw with } }

/-- An accepted command whose meaning is about to run (R255). -/
structure Ready (s : State) : Prop where
  stored : Stored s
  atRest : s.status.AtRest
  unresolved : s.status.Unresolved

theorem Inv.accept (h : Inv s) (hbusy : s.status.busy = false) (c : Reg) : Ready (s.accept c) where
  stored := { h.stored with }
  atRest := { h.consistent.atRest hbusy with }
  unresolved := s.status.cleared_unresolved

theorem Ready.complete (h : Ready s) (v : Reg) : Inv (s.complete v) :=
  inv_of_atRest { h.stored with } (h.atRest.succeeded h.unresolved) { h.atRest with }

theorem Ready.raise (h : Ready s) (e : CmdError) : Inv (s.raise e) :=
  inv_of_atRest { h.stored with } (h.atRest.raised (.inr h.unresolved.excCode)) { h.atRest with }

theorem Ready.raise_excCode (h : Ready s) {e : CmdError} {x : Byte} (hx : e = .exception ∨ x = 0) :
    Inv ((s.setExcCode x).raise e) :=
  have hrest : (s.setExcCode x).status.AtRest := { h.atRest with }
  inv_of_atRest { h.stored with } (hrest.raised hx) { h.atRest with }

theorem Ready.completeWord (h : Ready s) (r : Except CmdError Word) : Inv (s.completeWord r) := by
  cases r with
  | ok w => exact h.complete _
  | error e => exact h.raise e

theorem Ready.withAllFf (h : Ready s) (b : Bool) : Ready { s with status := { s.status with allFf := b } } where
  stored := { h.stored with }
  atRest := { h.atRest with }
  unresolved := { h.unresolved with }

theorem ofNat_toNat_le (w n : Nat) : (BitVec.ofNat w n).toNat ≤ n := by
  rw [BitVec.toNat_ofNat]
  exact Nat.mod_le _ _

/-- Bytes put into BUF with a new BUF_LEN (R33, R37). -/
theorem Ready.putBuf (h : Ready s) {a n : Nat} {bytes : List Byte} (hfit : a + bytes.length ≤ Config.bufCap)
    (hlen : n ≤ Config.bufCap) :
    Ready { s with buf := cellsWrite (w := 8) a bytes s.buf, bufLen := BitVec.ofNat 9 n } where
  stored := { h.stored with
    buf := cellsWrite_wf bytes hfit h.stored.buf
    bufLen := (ofNat_toNat_le 9 n).trans hlen }
  atRest := h.atRest
  unresolved := h.unresolved

theorem Ready.putWbuf (h : Ready s) {words : List Word} (hfit : words.length ≤ Config.wbufCap) :
    Ready { s with wbuf := cellsWrite 0 words s.wbuf } where
  stored := { h.stored with wbuf := cellsWrite_wf words (by omega) h.stored.wbuf }
  atRest := h.atRest
  unresolved := h.unresolved

theorem Ready.putFrame (h : Ready s) {frame : List Byte} (hfit : frame.length ≤ Config.bufCap) :
    Inv (s.putFrame frame) := (h.putBuf (by omega) hfit).complete _

end Parts
end Sys2Proof.Machine

/-! PROOF. Starting a transaction (42_rtu_transaction.md R151, R152) keeps the invariant. -/

namespace Sys2Proof.Machine

theorem readDesc_ok {u : Byte} {a c : Word} (hc : countOk c = true) : (readDesc u a c).ok := ⟨hc, .inl ⟨rfl, rfl⟩⟩

theorem writeDesc_ok (u : Byte) (a v : Word) : (writeDesc u a [v]).ok := ⟨rfl, .inr ⟨rfl, rfl⟩⟩

/-- The descriptor lists of the link commands hold descriptors of R151. -/
theorem ok_of_descsOf {u : Byte} {i : Instr} {td : List TxnDesc} (h : descsOf u i td) : ∀ d ∈ td, d.ok := by
  have hone {d : TxnDesc} (hd : d.ok) : ∀ x ∈ [d], x.ok := fun x hx => List.mem_singleton.mp hx ▸ hd
  cases i with
  | readHolding v st c =>
    obtain ⟨hc, rfl⟩ := h
    exact hone ⟨hc, .inl ⟨rfl, rfl⟩⟩
  | writeMultiple v st n =>
    obtain ⟨hn, ws, hws, rfl⟩ := h
    exact hone ⟨hn, .inr ⟨rfl, hws⟩⟩
  | readAllVoltages => cases h; exact hone (readDesc_ok (by decide))
  | readSingleVoltage ch => obtain ⟨-, rfl⟩ := h; exact hone (readDesc_ok (by decide))
  | readSnapshot =>
    cases h
    simp only [snapshotDescs, List.forall_mem_cons, List.not_mem_nil, IsEmpty.forall_iff, implies_true, and_true]
    refine ⟨?_, ?_, ?_, ?_, ?_, ?_, ?_, ?_, ?_, ?_, ?_, ?_⟩ <;> exact readDesc_ok (by decide)
  | writeDeviceAddress a => obtain ⟨-, -, rfl⟩ := h; exact hone (writeDesc_ok ..)
  | writeBaudRate rate => obtain ⟨code, -, rfl⟩ := h; exact hone (writeDesc_ok ..)
  | writeIoDirection v | writeIoValue v | writeSetTemperature v => cases h; exact hone (writeDesc_ok ..)
  | writeDropThreshold ch x => obtain ⟨-, v, -, rfl⟩ := h; exact hone (writeDesc_ok ..)
  | _ => exact h.elim

theorem length_of_descsOf {u : Byte} {i : Instr} {td : List TxnDesc} (h : descsOf u i td) :
    1 ≤ td.length ∧ td.length ≤ 12 := by
  have hone (d : TxnDesc) : 1 ≤ [d].length ∧ [d].length ≤ 12 := ⟨Nat.le_refl 1, Nat.le_add_left 1 11⟩
  cases i with
  | readHolding v st c => obtain ⟨-, rfl⟩ := h; exact hone _
  | writeMultiple v st n => obtain ⟨-, ws, -, rfl⟩ := h; exact hone _
  | readAllVoltages | writeIoDirection | writeIoValue | writeSetTemperature => cases h; exact hone _
  | readSnapshot => cases h; exact ⟨Nat.le_add_left 1 11, Nat.le_refl 12⟩
  | readSingleVoltage ch => obtain ⟨-, rfl⟩ := h; exact hone _
  | writeDeviceAddress a => obtain ⟨-, -, rfl⟩ := h; exact hone _
  | writeBaudRate rate => obtain ⟨code, -, rfl⟩ := h; exact hone _
  | writeDropThreshold ch x => obtain ⟨-, v, -, rfl⟩ := h; exact hone _
  | _ => exact h.elim

theorem frame_length_le {d : TxnDesc} (h : d.ok) : d.frame.length ≤ Config.txbufCap := by
  obtain ⟨hcount, hkind⟩ := h
  obtain ⟨-, hle⟩ := (countOk_iff _).mp hcount
  unfold TxnDesc.frame
  split
  · rw [buildRead_length]
    decide
  · rename_i hfc
    obtain ⟨-, hlen⟩ := hkind.resolve_left fun hread => hfc hread.1
    rw [buildWrite_length, hlen]
    simp only [Config.txbufCap]
    omega

/-- Transaction `k` of the running command can start, with descriptor `d`. -/
structure Startable (s : State) (k : Nat) (d : TxnDesc) : Prop where
  stored : Stored s
  unresolved : s.status.Unresolved
  retriesLeft : s.status.retriesLeft = 0
  command : ∃ i, s.running = .ok i ∧ descsOf s.unit i s.td
  total : s.seq.total.toNat = s.td.length
  desc : s.td[k]? = some d
  staged : k ≤ s.stage.length ∧
    ∀ j, j < k → ∀ e, s.td[j]? = some e → e.fc = 0x03 → (s.staged j).length = e.count.toNat

section Start
variable {s : State} {k : Nat} {d : TxnDesc}

theorem Startable.descs (h : Startable s k d) : ∀ e ∈ s.td, e.ok := by
  obtain ⟨i, -, hdescs⟩ := h.command
  exact ok_of_descsOf hdescs

theorem Startable.desc_ok (h : Startable s k d) : d.ok := h.descs d (List.mem_of_getElem? h.desc)

theorem Startable.loadTxn_stored (h : Startable s k d) : Stored (s.loadTxn k d) :=
  { h.stored with
    txbuf := cellsWrite_wf d.frame (by rw [Nat.zero_add]; exact frame_length_le h.desc_ok) h.stored.txbuf
    txLen := (ofNat_toNat_le 9 _).trans (frame_length_le h.desc_ok)
    rxCount := Nat.zero_le _ }

theorem Startable.idx_toNat (h : Startable s k d) : (BitVec.ofNat 8 k).toNat = k := by
  have hk : k < s.td.length := (List.getElem?_eq_some_iff.mp h.desc).1
  have htotal := h.total
  rw [BitVec.toNat_ofNat]
  omega

theorem Startable.loadTxn_running (h : Startable s k d) : Running (s.loadTxn k d) where
  command := h.command
  descs := h.descs
  total := h.total
  current := by
    have hidx : (s.loadTxn k d).seq.idx.toNat = k := h.idx_toNat
    have hlen : (s.loadTxn k d).txLen.toNat = d.frame.length :=
      BitVec.toNat_ofNat _ 9 ▸ Nat.mod_eq_of_lt (Nat.lt_of_le_of_lt (frame_length_le h.desc_ok) (by decide))
    refine ⟨d, by rw [hidx]; exact h.desc, ⟨rfl, rfl, rfl, rfl⟩, hlen, fun i hi => ?_⟩
    have hcell := cellGet_cellsWrite_inside d.frame 0 i s.txbuf hi
    rwa [Nat.zero_add] at hcell
  staged := by
    have hidx : (s.loadTxn k d).seq.idx.toNat = k := h.idx_toNat
    rw [hidx]
    exact h.staged
  reply := ⟨fun i hi => absurd hi (Nat.not_lt_zero i), Nat.zero_le _⟩
  sending _ := rfl
  retries := nofun
  validating := nofun

theorem Startable.loadTxn_inv (h : Startable s k d) : Inv (s.loadTxn k d) :=
  inv_of_running h.loadTxn_stored { h.unresolved with } rfl nofun (fun _ => h.retriesLeft) nofun h.loadTxn_running

theorem Startable.startTxn_inv (h : Startable s k d) {f : State → State} (hf : ∀ t, Stored t → Stored (f t)) :
    Inv (s.startTxn f k d) := by
  rcases s.startTxn_cases f k d with ⟨-, heq⟩ | ⟨-, heq⟩ <;> rw [heq]
  · exact h.loadTxn_inv
  · exact endFail_inv (hf _ { h.stored with }) (.inr rfl)

end Start
end Sys2Proof.Machine

/-! PROOF. Running an accepted command (30_encoding.md R81) keeps the invariant: a pure command ends at once, a link
command starts its first transaction or ends with an error. -/

namespace Sys2Proof.Machine

theorem validateRead_excCode {rx : List Byte} {u : Byte} {c : Word} {e : CmdError} {x : Byte}
    (h : validateRead rx u c.toNat = .error (e, x)) : e = .exception ∨ x = 0 :=
  Tr.validate_excCode (t := { fc := 0x03, unit := u, start := 0, count := c, r := 0 }) h

theorem validateWrite_excCode {rx : List Byte} {u : Byte} {e : CmdError} {x : Byte}
    (h : validateWrite rx u = .error (e, x)) : e = .exception ∨ x = 0 :=
  Tr.validate_excCode (t := { fc := 0x10, unit := u, start := 0, count := 0, r := 0 }) h

section Commands
variable {s t : State}

theorem Ready.latchUnit (h : Ready s) (u : Byte) : Ready { s with unit := u } :=
  { stored := { h.stored with }, atRest := h.atRest, unresolved := h.unresolved }

theorem Ready.begin (h : Ready s) {i : Instr} {tds : List TxnDesc} (hrun : s.running = .ok i)
    (hdescs : descsOf s.unit i tds) {f : State → State} (hf : ∀ t, Stored t → Stored (f t)) :
    Inv (s.begin f tds) := by
  obtain ⟨hpos, hmax⟩ := length_of_descsOf hdescs
  cases tds with
  | nil => exact absurd hpos (by decide)
  | cons d tds =>
    rw [State.begin_cons]
    have htotal : (BitVec.ofNat 8 (tds.length + 1)).toNat = tds.length + 1 := by
      rw [BitVec.toNat_ofNat]
      rw [List.length_cons] at hmax
      omega
    have hstart : Startable
        { s with td := d :: tds, seq := { s.seq with total := BitVec.ofNat 8 (tds.length + 1) } } 0 d :=
      { stored := { h.stored with }
        unresolved := h.unresolved
        retriesLeft := h.atRest.retriesLeft
        command := ⟨i, hrun, hdescs⟩
        total := htotal
        desc := rfl
        staged := ⟨Nat.zero_le _, fun j hj => absurd hj (Nat.not_lt_zero j)⟩ }
    exact hstart.startTxn_inv hf

theorem Ready.devAccept (h : Ready s) {i : Instr} {check : Except CmdError Unit} {tds : Byte → List TxnDesc}
    (hrun : s.running = .ok i) (hdescs : check = .ok () → descsOf s.session.unit i (tds s.session.unit))
    {f : State → State} (hf : ∀ t, Stored t → Stored (f t)) : Inv (s.devAccept f check tds) := by
  rcases s.devAccept_cases f check tds with ⟨e, -, heq⟩ | ⟨-, -, heq⟩ | ⟨hcheck, -, heq⟩ <;> rw [heq]
  · exact h.raise e
  · exact h.raise _
  · exact (h.latchUnit s.session.unit).begin hrun (hdescs hcheck) hf

theorem Ready.writeAccept (h : Ready s) {i : Instr} {checked : Except CmdError Word} {addr : Word}
    (hrun : s.running = .ok i)
    (hdescs : ∀ v, checked = .ok v → descsOf s.session.unit i [writeDesc s.session.unit addr [v]]) :
    Inv (s.writeAccept checked addr) := by
  rcases s.writeAccept_cases checked addr with ⟨e, -, heq⟩ | ⟨v, -, -, heq⟩ | ⟨v, hchecked, -, heq⟩ <;> rw [heq]
  · exact h.raise e
  · exact h.raise _
  · exact (h.latchUnit s.session.unit).begin hrun (hdescs v hchecked) fun _ ht => ht

/-! ### The pure commands -/

theorem execCrcCalc_inv (h : Ready s) {n : Word} (hstep : execCrcCalc n s = .next t) : Inv t := by
  cases hstep
  split
  · exact h.raise _
  · exact h.complete _

theorem execCrcVerify_inv (h : Ready s) {n : Word} (hstep : execCrcVerify n s = .next t) : Inv t := by
  cases hstep
  split
  · exact h.raise _
  · exact h.complete _

theorem execCrcAppend_inv (h : Ready s) {n : Word} (hstep : execCrcAppend n s = .next t) : Inv t := by
  cases hstep
  split
  · exact h.raise _
  · split
    · exact h.raise _
    · rename_i hfit
      exact (h.putBuf (a := n.toNat) (by simp only [List.length_cons, List.length_nil]; omega) (by omega)).complete _

theorem execTextDecode_inv (h : Ready s) {n : Byte} (hstep : execTextDecode n s = .next t) : Inv t := by
  cases hstep
  split
  · exact h.raise _
  · rename_i hn
    have hlen : textLen (s.wbufWords n.toNat) ≤ Config.bufCap := by
      have hle := textLen_le (s.wbufWords n.toNat)
      rw [State.wbufWords, cellsRead_length] at hle
      simp only [Config.wbufCap, Config.bufCap] at hn ⊢
      exact hle.trans (by omega)
    have hbytes : 0 + (textBytes (s.wbufWords n.toNat)).length ≤ Config.bufCap := by
      rw [textBytes_length, Nat.zero_add]
      exact hlen
    have hready := h.withAllFf (decide (0 < n.toNat) && allFf (s.wbufWords n.toNat))
    exact (hready.putBuf hbytes hlen).complete _

theorem execFrameReadReq_inv (h : Ready s) {u : Byte} {st c : Word} (hstep : execFrameReadReq u st c s = .next t) :
    Inv t := by
  cases hstep
  split
  · exact h.putFrame (by rw [buildRead_length]; decide)
  · exact h.raise _

theorem execFrameWriteReq_inv (h : Ready s) {u : Byte} {st n : Word} (hstep : execFrameWriteReq u st n s = .next t) :
    Inv t := by
  cases hstep
  split
  · rename_i hn
    obtain ⟨-, hle⟩ := (countOk_iff n).mp hn
    refine h.putFrame ?_
    rw [buildWrite_length, State.wbufWords, cellsRead_length]
    simp only [Config.bufCap]
    omega
  · exact h.raise _

theorem execFrameReadRsp_inv (h : Ready s) {u : Byte} {c : Word} (hstep : execFrameReadRsp u c s = .next t) :
    Inv t := by
  cases hstep
  split
  · rename_i hc
    obtain ⟨-, hle⟩ := (countOk_iff c).mp hc
    dsimp only
    split
    · exact h.raise _
    · split
      · rename_i w hvalid
        have hlen := validateRead_length hvalid
        exact (h.putWbuf (words := w) (by simp only [Config.wbufCap]; omega)).complete _
      · rename_i e x hinvalid
        exact h.raise_excCode (validateRead_excCode hinvalid)
  · exact h.raise _

theorem execFrameWriteRsp_inv (h : Ready s) {u : Byte} (hstep : execFrameWriteRsp u s = .next t) : Inv t := by
  cases hstep
  dsimp only
  split
  · exact h.raise _
  · split
    · exact h.complete _
    · rename_i e x hinvalid
      exact h.raise_excCode (validateWrite_excCode hinvalid)

theorem execRegLookup_inv (h : Ready s) {id : Byte} (hstep : execRegLookup id s = .next t) : Inv t := by
  cases hstep
  split
  · exact h.complete _
  · exact h.raise _

/-! ### The link commands -/

theorem execReadHolding_inv (h : Ready s) {u : Byte} {st c : Word} (hrun : s.running = .ok (.readHolding u st c))
    (hstep : execReadHolding u st c s = .next t) : Inv t := by
  cases hstep
  split
  · rename_i hc
    exact h.begin hrun ⟨hc, rfl⟩ fun _ ht => ht
  · exact h.raise _

theorem execWriteMultiple_inv (h : Ready s) {u : Byte} {st n : Word} (hrun : s.running = .ok (.writeMultiple u st n))
    (hstep : execWriteMultiple u st n s = .next t) : Inv t := by
  cases hstep
  split
  · rename_i hn
    exact h.begin hrun ⟨hn, _, by rw [State.wbufWords, cellsRead_length], rfl⟩ fun _ ht => ht
  · exact h.raise _

theorem require_ok {ok : Bool} {e : CmdError} (h : require ok e = .ok ()) : ok = true := by
  cases ok
  · cases h
  · rfl

theorem execWriteDeviceAddress_inv (h : Ready s) {a : Word} (hrun : s.running = .ok (.writeDeviceAddress a))
    (hstep : execWriteDeviceAddress a s = .next t) : Inv t := by
  cases hstep
  refine h.writeAccept hrun fun v hv => ?_
  split at hv
  · rename_i ha
    cases hv
    exact ⟨ha.1, ha.2, rfl⟩
  · cases hv

theorem execWriteBaudRate_inv (h : Ready s) {rate : Reg} (hrun : s.running = .ok (.writeBaudRate rate))
    (hstep : execWriteBaudRate rate s = .next t) : Inv t := by
  cases hstep
  refine h.writeAccept hrun fun v hv => ?_
  split at hv
  · rename_i code hcode
    cases hv
    exact ⟨v, hcode, rfl⟩
  · cases hv

theorem execWriteDropThreshold_inv (h : Ready s) {ch : Byte} {x : Reg}
    (hrun : s.running = .ok (.writeDropThreshold ch x)) (hstep : execWriteDropThreshold ch x s = .next t) :
    Inv t := by
  cases hstep
  refine h.writeAccept hrun fun v hv => ?_
  split at hv
  · rename_i hch
    exact ⟨hch, v, hv, rfl⟩
  · cases hv

/-- Running an accepted command keeps the invariant. -/
theorem exec_inv (h : Ready s) {i : Instr} (hrun : s.running = .ok i) (hstep : exec i s = .next t) : Inv t := by
  cases i with
  | crcCalc n => exact execCrcCalc_inv h hstep
  | crcVerify n => exact execCrcVerify_inv h hstep
  | crcAppend n => exact execCrcAppend_inv h hstep
  | frameReadReq u st c => exact execFrameReadReq_inv h hstep
  | frameWriteReq u st n => exact execFrameWriteReq_inv h hstep
  | frameReadRsp u c => exact execFrameReadRsp_inv h hstep
  | frameWriteRsp u => exact execFrameWriteRsp_inv h hstep
  | voltDecode | thrDecode | baudDecode | maskDecode => cases hstep; exact h.complete _
  | voltEncode | thrEncode | baudEncode => cases hstep; exact h.completeWord _
  | textDecode n => exact execTextDecode_inv h hstep
  | regLookup id => exact execRegLookup_inv h hstep
  | readHolding u st c => exact execReadHolding_inv h hrun hstep
  | writeMultiple u st n => exact execWriteMultiple_inv h hrun hstep
  | readAllVoltages =>
    cases hstep
    exact h.devAccept (tds := fun u => [readDesc u 0x8010 32]) hrun (fun _ => rfl) fun _ ht => ht
  | readSingleVoltage ch => cases hstep; exact h.devAccept hrun (fun hok => ⟨require_ok hok, rfl⟩) fun _ ht => ht
  | readSnapshot => cases hstep; exact h.devAccept hrun (fun _ => rfl) fun _ => snapOffline_stored
  | writeDeviceAddress a => exact execWriteDeviceAddress_inv h hrun hstep
  | writeBaudRate rate => exact execWriteBaudRate_inv h hrun hstep
  | writeIoDirection | writeIoValue | writeSetTemperature =>
    cases hstep
    exact h.writeAccept hrun fun v hv => by cases hv; rfl
  | writeDropThreshold ch x => exact execWriteDropThreshold_inv h hrun hstep
  | rtuReadHoldingRegisters | rtuReadException | rtuWriteMultipleRegisters | rtuWriteException =>
    exact absurd rfl (encode_ne_frame_of_decodeFields hrun _)

theorem issue_inv (h : Inv s) {c : Reg} (hstep : issue s c = .next t) : Inv t := by
  rcases issue_cases s c with ⟨hbusy, heq⟩ | ⟨i, hidle, hdecode, heq⟩ | ⟨e, hidle, -, heq⟩ <;> rw [heq] at hstep
  · cases hstep
    exact { h with running := fun hb => { h.running hb with } }
  · exact exec_inv (h.accept hidle c) hdecode hstep
  · cases hstep
    exact (h.accept hidle c).raise _

end Commands
end Sys2Proof.Machine

/-! PROOF. The three block steps of a transaction (42_rtu_transaction.md R153, R156, R159) keep the invariant. -/

namespace Sys2Proof.Machine

section OnFail
variable {s : State}

theorem onFailRunning_cases (s : State) : s.onFailRunning = s ∨ s.onFailRunning = s.snapOffline := by
  unfold State.onFailRunning
  cases s.running with
  | error e => exact .inl rfl
  | ok i =>
    cases i with
    | readSnapshot => exact .inr rfl
    | _ => exact .inl rfl

theorem onFailRunning_stored (h : Stored s) : Stored s.onFailRunning := by
  rcases onFailRunning_cases s with heq | heq <;> rw [heq]
  · exact h
  · exact snapOffline_stored h

end OnFail

/-! ### SENDING -/

theorem code_of_isExceptionFrame {bytes : List Byte} (h : isExceptionFrame bytes = true) :
    bytes[1]? = some 0x83 ∨ bytes[1]? = some 0x90 := by
  unfold isExceptionFrame at h
  split at h
  next hd => cases encode_of_decodeFrame hd; exact .inl rfl
  next hd => cases encode_of_decodeFrame hd; exact .inr rfl
  next => cases h

theorem frame_code {d : TxnDesc} (h : d.ok) : d.frame[1]? = some d.fc := by
  obtain ⟨-, ⟨hfc, -⟩ | ⟨hfc, -⟩⟩ := h <;> simp [TxnDesc.frame, hfc, buildRead, buildWrite, appendCrc]

theorem isExceptionFrame_frame {d : TxnDesc} (h : d.ok) : isExceptionFrame d.frame = false := by
  refine Bool.eq_false_iff.mpr fun hexc => ?_
  have hcode := code_of_isExceptionFrame hexc
  rw [frame_code h] at hcode
  obtain ⟨-, ⟨hfc, -⟩ | ⟨hfc, -⟩⟩ := h <;> simp [hfc] at hcode

section Steps
variable {s : State}

theorem Running.current_ok (h : Running s) : ∃ d, s.td[s.seq.idx.toNat]? = some d ∧ d.ok ∧ s.tr.isOf d := by
  obtain ⟨d, hd, hof, -, -⟩ := h.current
  exact ⟨d, hd, h.descs d (List.mem_of_getElem? hd), hof⟩

/-- TXBUF holds a request, which is no exception reply, so that the SENDING step sends it. -/
theorem Running.isExceptionFrame_txBytes (h : Running s) : isExceptionFrame s.txBytes = false := by
  obtain ⟨d, hd, -, hlen, hhold⟩ := h.current
  rw [State.txBytes, hlen, cellsRead_eq_of_hold _ _ _ hhold]
  exact isExceptionFrame_frame (h.descs d (List.mem_of_getElem? hd))

theorem Inv.busy_of_state (h : Inv s) {st : TxnState} (hstate : s.status.state = st) (hne : st ≠ .idle) :
    s.status.busy = true := h.busy.mpr (hstate ▸ hne)

theorem sendStep_inv (h : Inv s) (hstate : s.status.state = .sending) (frame : List Byte) :
    Inv (s.sendStep frame) := by
  have hbusy := h.busy_of_state hstate nofun
  have hu := h.consistent.unresolved hbusy
  have hrun := h.running hbusy
  rcases s.sendStep_cases frame with ⟨hopen, -, heq⟩ | ⟨-, heq⟩ <;> rw [heq]
  · exact inv_of_running { h.stored with } { hu with } hbusy nofun (absurd rfl)
      (fun _ hclosed => absurd (hopen.symm.trans hclosed) Bool.false_ne_true.symm)
      { hrun with
        sending := nofun
        retries := fun _ => rfl
        validating := nofun }
  · exact endFail_inv (onFailRunning_stored { h.stored with }) (.inr rfl)

/-! ### AWAITING -/

theorem cellsHold_append {w : Nat} {m : Store w} {vs : List (BitVec w)} (h : cellsHold m vs) (ws : List (BitVec w)) :
    cellsHold (cellsWrite vs.length ws m) (vs ++ ws) := by
  intro i hi
  by_cases hold : i < vs.length
  · rw [cellGet_cellsWrite_outside _ _ _ _ (.inl hold), h i hold, List.getElem_append_left hold]
  · rw [List.length_append] at hi
    obtain ⟨k, rfl⟩ : ∃ k, i = vs.length + k := ⟨i - vs.length, by omega⟩
    rw [cellGet_cellsWrite_inside _ _ _ _ (by omega), List.getElem_append_right (by omega)]
    simp

theorem cellsWritten_of_hold {w : Nat} {m : Store w} {vs : List (BitVec w)} (h : cellsHold m vs) :
    cellsWritten m vs.length := fun i hi => by rw [h i hi]; rfl

/-- Bytes already written read as what they hold. -/
theorem rxBytes_hold (h : cellsWritten (w := 8) s.rxbuf s.rxCount.toNat) : cellsHold (w := 8) s.rxbuf s.rxBytes := by
  intro i hi
  have hlen : i < s.rxCount.toNat := by rwa [State.rxBytes, cellsRead_length] at hi
  obtain ⟨v, hv⟩ := Option.isSome_iff_exists.mp (h i hlen)
  simp [State.rxBytes, hv]

theorem rxBytes_length (s : State) : s.rxBytes.length = s.rxCount.toNat := cellsRead_length ..

/-- A poll stops at the needed length, which can grow with byte 1 alone. -/
theorem collect_length_le (t : Tr) : ∀ (rx q : List Byte), rx.length ≤ t.need rx →
    (collect t.need rx q).1.length ≤ t.need (collect t.need rx q).1 := by
  intro rx q
  induction q generalizing rx with
  | nil => exact id
  | cons b q ih =>
    intro hle
    unfold collect
    split
    · rename_i hlt
      refine ih _ ?_
      rw [List.length_append, List.length_singleton]
      by_cases h2 : 2 ≤ rx.length
      · rw [t.need_append rx [b] h2]
        omega
      · have := t.five_le_need (rx ++ [b])
        omega
    · exact hle

/-- The reply bytes after a poll: those collected before and those it takes from RXQ (R156). -/
def State.collected (s : State) : List Byte := (collect s.tr.need s.rxBytes s.link.rxq).1

theorem takeBytes_hold (h : cellsWritten (w := 8) s.rxbuf s.rxCount.toNat) :
    cellsHold (w := 8) s.takeBytes.rxbuf s.collected := by
  obtain ⟨taken, hsplit, -⟩ := collect_split s.tr.need s.rxBytes s.link.rxq
  have hbuf : s.takeBytes.rxbuf =
    cellsWrite (w := 8) s.rxBytes.length (s.collected.drop s.rxBytes.length) s.rxbuf := rfl
  have hcollected : s.collected = s.rxBytes ++ taken := hsplit
  rw [hbuf, hcollected, List.drop_left]
  exact cellsHold_append (rxBytes_hold h) taken

theorem Running.collected_length_le (h : Running s) : s.collected.length ≤ s.tr.need s.collected :=
  collect_length_le s.tr s.rxBytes s.link.rxq (by rw [rxBytes_length]; exact h.reply.2)

theorem Running.collected_length_le_cap (h : Running s) : s.collected.length ≤ Config.rxbufCap := by
  obtain ⟨d, -, ⟨hcount, -⟩, hof⟩ := h.current_ok
  have hmax := ((countOk_iff _).mp hcount).2
  exact h.collected_length_le.trans (s.tr.need_le _ (by rw [hof.2.2.2]; exact hmax))

theorem Running.takeBytes_rxCount (h : Running s) : s.takeBytes.rxCount.toNat = s.collected.length := by
  have hcap := h.collected_length_le_cap
  simp only [Config.rxbufCap] at hcap
  have hcount : s.takeBytes.rxCount = BitVec.ofNat 9 s.collected.length := rfl
  rw [hcount, BitVec.toNat_ofNat]
  omega

theorem Running.takeBytes_rxBytes (h : Running s) : s.takeBytes.rxBytes = s.collected := by
  rw [State.rxBytes, h.takeBytes_rxCount]
  exact cellsRead_eq_of_hold _ _ _ (takeBytes_hold h.reply.1)

theorem Running.takeBytes_stored (h : Running s) (hs : Stored s) : Stored s.takeBytes :=
  { hs with
    rxbuf := by
      obtain ⟨taken, hsplit, -⟩ := collect_split s.tr.need s.rxBytes s.link.rxq
      refine cellsWrite_wf _ ?_ hs.rxbuf
      have hcap := h.collected_length_le_cap
      have hle : s.rxBytes.length ≤ s.collected.length := by
        rw [State.collected, hsplit, List.length_append]
        exact Nat.le_add_right _ _
      rw [List.length_drop]
      exact (Nat.add_sub_cancel' hle).le.trans hcap
    rxCount := by rw [h.takeBytes_rxCount]; exact h.collected_length_le_cap }

theorem Running.takeBytes_reply (h : Running s) :
    cellsWritten (w := 8) s.takeBytes.rxbuf s.takeBytes.rxCount.toNat ∧
      s.takeBytes.rxCount.toNat ≤ s.tr.need s.takeBytes.rxBytes := by
  rw [h.takeBytes_rxBytes, h.takeBytes_rxCount]
  exact ⟨cellsWritten_of_hold (takeBytes_hold h.reply.1), h.collected_length_le⟩

theorem pollStep_inv (h : Inv s) (hstate : s.status.state = .awaiting) : Inv s.pollStep := by
  have hbusy := h.busy_of_state hstate nofun
  have hu := h.consistent.unresolved hbusy
  have hrun := h.running hbusy
  rcases s.pollStep_cases with ⟨hcomplete, heq⟩ | ⟨-, -, heq⟩ | ⟨-, -, heq⟩ <;> rw [heq]
  · exact inv_of_running { hrun.takeBytes_stored h.stored with } { hu with } hbusy nofun (fun _ => rfl) nofun
      { hrun with
        reply := hrun.takeBytes_reply
        sending := nofun
        retries := nofun
        validating := fun _ => hcomplete }
  · exact endFail_inv (onFailRunning_stored (hrun.takeBytes_stored h.stored)) (.inr rfl)
  · exact inv_of_running { hrun.takeBytes_stored h.stored with } { hu with } hbusy (h.busy.mp hbusy)
      (fun hne => absurd hstate hne) h.cut
      { hrun with
        reply := hrun.takeBytes_reply
        sending := fun hsending => nomatch hstate.symm.trans hsending
        retries := fun _ => rfl
        validating := fun hvalidating => nomatch hstate.symm.trans hvalidating }

end Steps
end Sys2Proof.Machine

/-! PROOF. A validated reply (42_rtu_transaction.md R159): its words are staged, and the last one is followed by the
commit of the running command (44_device_ops.md R221 to R232), which keeps what the block stores well-formed. -/

namespace Sys2Proof.Machine

/-- Every read of the descriptor list has its words staged (R219). -/
def AllStaged (s : State) : Prop :=
  ∀ k d, s.td[k]? = some d → d.fc = 0x03 → (s.staged k).length = d.count.toNat

section Commit
variable {s : State}

theorem reading_decodes (s : State) (w : Word) : (s.reading w).uv = voltDecode (s.reading w).raw := rfl

theorem commitReadHolding_stored (hs : Stored s) (c : Word) (hfit : (s.staged 0).length ≤ Config.wbufCap) :
    Stored (s.commitReadHolding c) :=
  { hs with wbuf := cellsWrite_wf _ (by omega) hs.wbuf }

theorem commitAllVoltages_stored (hs : Stored s) (hfit : (s.staged 0).length ≤ Config.wbufCap) :
    Stored s.commitAllVoltages :=
  { hs with
    wbuf := cellsWrite_wf _ (by omega) hs.wbuf
    vr := by
      intro e he _
      simp only [State.commitAllVoltages, State.setResult_vr, Vector.toList_ofFn, List.mem_ofFn] at he
      obtain ⟨i, rfl⟩ := he
      exact reading_decodes s _ }

theorem commitSingleVoltage_stored (hs : Stored s) (ch : Byte) : Stored (s.commitSingleVoltage ch) :=
  { hs with
    wbuf := cellSet_wf _ (by decide) hs.wbuf
    vr := by
      intro e he hvalid
      simp only [State.commitSingleVoltage, State.setResult_vr, Vector.toList_setIfInBounds] at he
      rcases List.mem_or_eq_of_mem_set he with hold | rfl
      · exact hs.vr e hold hvalid
      · exact reading_decodes s _ }

theorem ofFn_getD_toList {n : Nat} {l : List Word} (h : l.length = n) :
    (Vector.ofFn fun i : Fin n => l.getD i.val 0).toList = l := by
  subst h
  rw [Vector.toList_ofFn]
  apply List.ext_getElem
  · simp
  · intro i h₁ h₂
    simp

/-- A text length fits its register when the block of the text is short enough (43_codecs.md R198). -/
theorem textLen_toNat {w n : Nat} {l : List Word} (h : l.length = n) (hw : 2 * n < 2 ^ w) :
    (BitVec.ofNat w (textLen l)).toNat = textLen l := by
  have hle := textLen_le l
  rw [BitVec.toNat_ofNat, Nat.mod_eq_of_lt (by omega)]

theorem snapshotTaken_coherent (hname : (s.staged 10).length = 32) (hserial : (s.staged 11).length = 31) :
    s.snapshotTaken.coherent := by
  have hnameW : s.snapshotTaken.nameW.toList = s.staged 10 := ofFn_getD_toList hname
  have hserialW : s.snapshotTaken.serialW.toList = s.staged 11 := ofFn_getD_toList hserial
  exact
    { baud := rfl
      acOn := beq_iff_eq
      nameLen := by rw [hnameW]; exact textLen_toNat hname (by decide)
      nameAllFf := by rw [hnameW]; rfl
      serialLen := by rw [hserialW]; exact textLen_toNat hserial (by decide)
      serialAllFf := by rw [hserialW]; rfl }

theorem commitSnapshot_stored (hs : Stored s) (hname : (s.staged 10).length = 32)
    (hserial : (s.staged 11).length = 31) : Stored s.commitSnapshot :=
  { hs with
    snapOnline := fun _ => rfl
    snapCoherent := fun _ => snapshotTaken_coherent hname hserial }

theorem commit_stored (hs : Stored s) {i : Instr} (hdescs : descsOf s.unit i s.td) (hstaged : AllStaged s) :
    Stored (s.commit i) := by
  cases i with
  | readHolding u st c =>
    obtain ⟨hc, htd⟩ := hdescs
    have hlen := hstaged 0 _ (by rw [htd]; rfl) rfl
    have hmax := ((countOk_iff c).mp hc).2
    exact commitReadHolding_stored hs c (hlen.le.trans (hmax.trans (by decide)))
  | readAllVoltages =>
    have hlen := hstaged 0 (readDesc s.unit 0x8010 32) (by rw [hdescs]; rfl) rfl
    exact commitAllVoltages_stored hs (hlen.le.trans (show (32 : Word).toNat ≤ Config.wbufCap by decide))
  | readSingleVoltage ch => exact commitSingleVoltage_stored hs ch
  | readSnapshot =>
    exact commitSnapshot_stored hs (hstaged 10 (readDesc s.unit 0x8800 32) (by rw [hdescs]; rfl) rfl)
      (hstaged 11 (readDesc s.unit 0x8820 31) (by rw [hdescs]; rfl) rfl)
  | _ => exact { hs with }

theorem commit_status (s : State) (i : Instr) : (s.commit i).status = s.status := by
  cases i <;> rfl

theorem commitRunning_of_running {i : Instr} (h : s.running = .ok i) : s.commitRunning = s.commit i := by
  simp only [State.commitRunning, h]

/-! ### Staging -/

theorem staged_stageWords_lt {k j : Nat} {w : List Word} (hk : k ≤ s.stage.length) (hj : j < k) :
    (s.stageWords k w).staged j = s.staged j := by
  simp only [State.staged, State.stageWords_stage, List.getD_eq_getElem?_getD]
  rw [List.getElem?_append_left (by rw [List.length_take]; omega), List.getElem?_take_of_lt hj]

theorem staged_stageWords_self {k : Nat} {w : List Word} (hk : k ≤ s.stage.length) :
    (s.stageWords k w).staged k = w := by
  simp [State.staged, hk]

theorem validate_length {t : Tr} {rx : List Byte} {w : List Word} (h : t.validate rx = .ok w) (hfc : t.fc = 0x03) :
    w.length = t.count.toNat := by
  rw [Tr.validate, if_pos hfc] at h
  exact validateRead_length h

/-- The words of the transaction in flight join those of the earlier ones (R219). -/
theorem Running.staged_next (h : Running s) {rx : List Byte} {w : List Word} (hvalid : s.tr.validate rx = .ok w) :
    s.seq.idx.toNat + 1 ≤ (s.stageWords s.seq.idx.toNat w).stage.length ∧
      ∀ j, j < s.seq.idx.toNat + 1 → ∀ d, s.td[j]? = some d → d.fc = 0x03 →
        ((s.stageWords s.seq.idx.toNat w).staged j).length = d.count.toNat := by
  obtain ⟨hk, hearlier⟩ := h.staged
  refine ⟨?_, fun j hj d hd hfc => ?_⟩
  · rw [State.stageWords_stage, List.length_append, List.length_take, List.length_singleton]
    omega
  · rcases Nat.lt_succ_iff_lt_or_eq.mp hj with hlt | rfl
    · rw [staged_stageWords_lt hk hlt]
      exact hearlier j hlt d hd hfc
    · obtain ⟨e, he, -, hof⟩ := h.current_ok
      obtain ⟨hofFc, -, -, hofCount⟩ := hof
      obtain rfl : e = d := Option.some.inj (he.symm.trans hd)
      rw [staged_stageWords_self hk, validate_length hvalid (hofFc.trans hfc), hofCount]

theorem validateStep_inv (h : Inv s) (hstate : s.status.state = .validating) (rx : List Byte) :
    Inv (s.validateStep rx) := by
  have hbusy := h.busy_of_state hstate nofun
  have hu := h.consistent.unresolved hbusy
  have hrun := h.running hbusy
  rcases s.validateStep_cases rx with ⟨e, x, hinvalid, heq⟩ | ⟨w, d, hvalid, hd, heq⟩ | ⟨w, hvalid, hlast, heq⟩ <;>
    rw [heq]
  · exact endFail_inv (onFailRunning_stored h.stored) (Tr.validate_excCode hinvalid)
  · have hstart : Startable (s.stageWords s.seq.idx.toNat w) (s.seq.idx.toNat + 1) d :=
      { stored := { h.stored with }
        unresolved := hu
        retriesLeft := h.retriesLeft (by simp [hstate])
        command := hrun.command
        total := hrun.total
        desc := hd
        staged := hrun.staged_next hvalid }
    exact hstart.startTxn_inv fun _ => onFailRunning_stored
  · have hstaged : AllStaged (s.stageWords s.seq.idx.toNat w) := fun k d hd hfc => by
      have hk : k < s.td.length := (List.getElem?_eq_some_iff.mp hd).1
      have hend : s.td.length ≤ s.seq.idx.toNat + 1 := List.getElem?_eq_none_iff.mp hlast
      exact (hrun.staged_next hvalid).2 k (by omega) d hd hfc
    obtain ⟨i, hi, hdescs⟩ := hrun.command
    rw [commitRunning_of_running (s := s.stageWords s.seq.idx.toNat w) hi]
    refine endOk_inv (commit_stored (s := s.stageWords s.seq.idx.toNat w) { h.stored with } hdescs hstaged) ?_
    rw [commit_status]
    exact hu

theorem blockNext_inv (h : Inv s) : Inv s.blockNext := by
  unfold State.blockNext
  cases hstate : s.status.state with
  | idle => exact h
  | sending =>
    dsimp only
    rw [(h.running (h.busy_of_state hstate nofun)).isExceptionFrame_txBytes]
    exact sendStep_inv h hstate s.txBytes
  | awaiting => exact pollStep_inv h hstate
  | validating => exact validateStep_inv h hstate s.rxBytes

end Commit
end Sys2Proof.Machine

/-! PROOF. Every turn of every agent keeps the invariant. -/

namespace Sys2Proof.Machine

section Turns
variable {s t : State}

/-- The reply bytes counted have been written, so that no free value is read and the counter of draws does not matter. -/
theorem rxBytes_nextTurn (h : cellsWritten (w := 8) s.rxbuf s.rxCount.toNat) (rest : List Input) :
    (s.nextTurn rest).rxBytes = s.rxBytes := by
  have hread := cellsRead_eq_of_hold s.rxbuf (fun i => (s.nextTurn rest).free 8 (rxbufBase + i)) s.rxBytes
    (rxBytes_hold h)
  rwa [rxBytes_length] at hread

theorem Inv.nextTurn (h : Inv s) (rest : List Input) : Inv (s.nextTurn rest) :=
  { h with
    running := fun hbusy => by
      have hrun := h.running hbusy
      have hbytes := rxBytes_nextTurn hrun.reply.1 rest
      exact
        { hrun with
          reply := ⟨hrun.reply.1, by rw [hbytes]; exact hrun.reply.2⟩
          validating := fun hstate => by rw [hbytes]; exact hrun.validating hstate } }

theorem Inv.withFault (h : Inv s) (fault : FaultBits) : Inv { s with fault := fault } :=
  { h with running := fun hbusy => { h.running hbusy with } }

theorem Inv.withRdata (h : Inv s) (v : Reg) : Inv { s with rdata := v } :=
  { h with running := fun hbusy => { h.running hbusy with } }

theorem Inv.withLink (h : Inv s) {l : Link} (hcut : s.status.state = .awaiting → l.isOpen = false → l.cut = true) :
    Inv { s with link := l } :=
  { h with
    cut := hcut
    running := fun hbusy => { h.running hbusy with } }

theorem Inv.withTime (h : Inv s) (time : BitVec 64) : Inv { s with time := time } :=
  { h with running := fun hbusy => { h.running hbusy with } }

/-- A host write of a writable register, done while no command runs. -/
theorem Inv.writable (h : Inv s) (ht : Stored t) (hstatus : t.status = s.status) : Inv (s.writable t) := by
  rcases s.writable_cases t with ⟨-, heq⟩ | ⟨hidle, heq⟩ <;> rw [heq]
  · exact h.withFault _
  · exact inv_of_atRest ht (hstatus ▸ h.consistent) (hstatus ▸ h.consistent.atRest hidle)

theorem hostWrite_inv (h : Inv s) (index : BitVec 12) (v : Reg) : Inv (s.hostWrite (hostCell index) v) := by
  cases hcell : hostCell index with
  | cmd => exact h
  | arg | sessionUnit | cfgIfdMs | cfgPollRetries | cfgPollIntervalMs | cfgTimeoutMs =>
    exact h.writable { h.stored with } rfl
  | bufLen =>
    by_cases hv : v.toNat ≤ 264
    · rw [hostWrite_bufLen_of_le hv]
      refine h.writable { h.stored with bufLen := ?_ } rfl
      exact (BitVec.toNat_setWidth 9 v ▸ Nat.mod_le _ _).trans hv
    · rw [hostWrite_bufLen_of_gt (by omega)]
      exact (h.withFault _).writable { h.stored with } rfl
  | buf k => exact h.writable { h.stored with buf := cellSet_wf _ (lt_of_hostCell_buf hcell) h.stored.buf } rfl
  | wbuf k => exact h.writable { h.stored with wbuf := cellSet_wf _ (lt_of_hostCell_wbuf hcell) h.stored.wbuf } rfl
  | status | result | fault | link | txLen | rxCount | seq | txbuf | rxbuf | vr | snap | unmapped =>
    exact h.withFault _

theorem hostRead_inv (h : Inv s) (index : BitVec 12) : Inv (s.hostRead index) := by
  dsimp only [State.hostRead]
  split
  · exact (h.withRdata _).withFault _
  · exact h.withRdata _

theorem receive_inv (h : Inv s) (bytes : List Byte) : Inv (s.receive bytes) := h.withLink h.cut

theorem changeOpen_inv (h : Inv s) (o : Bool) : Inv (s.changeOpen o) := by
  rcases s.changeOpen_cases o with ⟨-, -, heq⟩ | ⟨hkept, heq⟩ <;> rw [heq]
  · exact h.withLink fun _ _ => rfl
  · refine h.withLink fun hawaiting hclosed => ?_
    rcases hkept with hopen | hstate
    · exact absurd (hopen.symm.trans hclosed) Bool.false_ne_true.symm
    · exact absurd hawaiting hstate

theorem reset_stored : Stored State.reset where
  buf := Store.wf_nil _
  wbuf := Store.wf_nil _
  txbuf := Store.wf_nil _
  rxbuf := Store.wf_nil _
  bufLen := Nat.zero_le _
  txLen := Nat.zero_le _
  rxCount := Nat.zero_le _
  vr := by
    intro e he hvalid
    simp only [State.reset, Vector.toList_replicate, List.mem_replicate] at he
    rw [he.2] at hvalid
    cases hvalid
  snapOnline := nofun
  snapCoherent := nofun

theorem takeReset_inv (s : State) : Inv s.takeReset := by
  have hrest : s.takeReset.status.AtRest := ⟨rfl, rfl, rfl⟩
  refine inv_of_atRest { reset_stored with } ?_ hrest
  exact
    { busy := by simp [hrest.busy, hrest.state]
      done := fun _ => rfl
      ok := nofun
      err := fun hne => absurd rfl hne
      excCode := fun _ => rfl
      retriesLeft := fun _ => rfl }

theorem takeInput_inv (h : Inv s) {i : Input} (hstep : takeInput s i = .next t) : Inv t := by
  cases i with
  | hostWrite index v =>
    dsimp only [takeInput] at hstep
    split at hstep
    · exact issue_inv h hstep
    · cases hstep; exact hostWrite_inv h index v
  | hostRead index => cases hstep; exact hostRead_inv h index
  | block =>
    rw [takeInput_block] at hstep
    cases hstep
    exact blockNext_inv h
  | reset => cases hstep; exact takeReset_inv s
  | linkReceive bytes => cases hstep; exact receive_inv h bytes
  | linkDrain n => cases hstep; exact h.withLink h.cut
  | linkOpen o => cases hstep; exact changeOpen_inv h o
  | linkRefuse r => cases hstep; exact h.withLink h.cut
  | setTime v => cases hstep; exact h.withTime v

end Turns

/-- Settles O59: a block step keeps the invariant, and so does each turn of the input list. -/
theorem everyStepKeepsTheInvariant : Obligations.EveryStepKeepsTheInvariant := by
  intro s t h hstep
  cases hin : s.inputs with
  | nil =>
    rw [step_of_inputs_nil s hin] at hstep
    exact takeInput_inv h hstep
  | cons i rest =>
    rw [step_of_inputs_cons hin] at hstep
    exact takeInput_inv (h.nextTurn rest) hstep

end Sys2Proof.Machine

/-! PROOF. The two encodings (30_encoding.md): decoding undoes encoding, what decodes is what was encoded, and the
assigned command codes are those of R82. -/

namespace Sys2Proof

theorem nOf_eq_setWidth (arg : Reg) : nOf arg = arg.setWidth 16 :=
  (BitVec.setWidth_eq_extractLsb' (by decide)).symm

/-- N as a 32-bit value is the low half of ARG (R83). -/
theorem setWidth_nOf (arg : Reg) : (nOf arg).setWidth 32 = arg &&& 0xFFFF := by
  rw [nOf_eq_setWidth]
  apply BitVec.eq_of_toNat_eq
  rw [BitVec.toNat_and, BitVec.toNat_setWidth, BitVec.toNat_setWidth]
  change arg.toNat % 2 ^ 16 % 2 ^ 32 = arg.toNat &&& (2 ^ 16 - 1)
  rw [Nat.and_two_pow_sub_one_eq_mod]
  omega

section Commands
variable {cmd arg : Reg} {opc a : Byte} {b : Word} {i : Instr}

theorem decode_commandCode (opc a : Byte) (b : Word) (arg : Reg) :
    decode (commandCode opc a b arg) = decodeFields opc a b arg := by
  simp [decode, commandCode, decodeCommand]

/-- A command is read by its OPC from the other three fields (R80, R82). -/
theorem decode_command_of_opc (h : opcOf cmd = opc) :
    decode (.command cmd arg) = decodeFields opc (aOf cmd) (bOf cmd) arg := by
  subst h
  rfl

/-- A field that is read from N is read back from a zero-extended N (R83). -/
theorem decode_commandCode_setWidth {f : Word → Instr} (n : Word)
    (h : ∀ arg, decodeFields opc a b arg = .ok (f (nOf arg))) :
    decode (commandCode opc a b (n.setWidth 32)) = .ok (f n) := by
  rw [decode_commandCode, h, nOf_setWidth]

/-- The assigned command codes (R82). -/
def assignedCodes : List Byte :=
  [0x01, 0x02, 0x03, 0x10, 0x11, 0x12, 0x13, 0x14, 0x15, 0x20, 0x21, 0x22, 0x23, 0x24, 0x25, 0x26,
    0x27, 0x30, 0x40, 0x41, 0x42, 0x43, 0x44, 0x45, 0x46, 0x47, 0x48]

/-- The codes of the commands that take N (R82). -/
def countedCodes : List Byte := [0x01, 0x02, 0x03, 0x10, 0x11, 0x12, 0x14, 0x15, 0x26]

theorem decodeFields_ok_of_mem (a : Byte) (b : Word) (arg : Reg) (h : opc ∈ assignedCodes) :
    ∃ i, decodeFields opc a b arg = .ok i := by
  simp only [assignedCodes, List.mem_cons, List.not_mem_nil, or_false] at h
  rcases h with rfl | rfl | rfl | rfl | rfl | rfl | rfl | rfl | rfl | rfl | rfl | rfl | rfl | rfl | rfl | rfl | rfl |
    rfl | rfl | rfl | rfl | rfl | rfl | rfl | rfl | rfl | rfl <;> exact ⟨_, rfl⟩

theorem rowByte_of_decodeFields (h : decodeFields opc a b arg = .ok i) : Laws.rowByte i = opc := by
  unfold decodeFields at h
  split at h <;> cases h
  all_goals rename_i hcode; exact BitVec.eq_of_toNat_eq hcode.symm

theorem rowByte_mem_assignedCodes (h : ∀ bytes, encode i ≠ .frame bytes) : Laws.rowByte i ∈ assignedCodes := by
  cases i with
  | rtuReadHoldingRegisters | rtuReadException | rtuWriteMultipleRegisters | rtuWriteException => exact absurd rfl (h _)
  | _ => simp [Laws.rowByte, assignedCodes]

/-- A command is encoded under its row's code (R82, R87). -/
theorem encode_eq_commandCode (h : ∀ bytes, encode i ≠ .frame bytes) :
    ∃ a b arg, encode i = commandCode (Laws.rowByte i) a b arg := by
  cases i with
  | rtuReadHoldingRegisters | rtuReadException | rtuWriteMultipleRegisters | rtuWriteException => exact absurd rfl (h _)
  | _ => exact ⟨_, _, _, rfl⟩

theorem eq_unassignedOpcode_of_decodeFields {e : DecodeError} (h : decodeFields opc a b arg = .error e) :
    e = .unassignedOpcode opc := by
  unfold decodeFields at h
  split at h <;> cases h
  rfl

/-- Every other code is refused under its own name (R84). -/
theorem decodeFields_of_not_mem (a : Byte) (b : Word) (arg : Reg) (h : opc ∉ assignedCodes) :
    decodeFields opc a b arg = .error (.unassignedOpcode opc) := by
  cases hd : decodeFields opc a b arg with
  | ok i =>
    have hmem := rowByte_mem_assignedCodes (encode_ne_frame_of_decodeFields hd)
    exact absurd (rowByte_of_decodeFields hd ▸ hmem) h
  | error e => rw [eq_unassignedOpcode_of_decodeFields hd]

theorem decodeFields_congr_nOf (a : Byte) (b : Word) {arg' : Reg} (hopc : opc ∈ countedCodes)
    (hn : nOf arg = nOf arg') : decodeFields opc a b arg = decodeFields opc a b arg' := by
  simp only [countedCodes, List.mem_cons, List.not_mem_nil, or_false] at hopc
  rcases hopc with rfl | rfl | rfl | rfl | rfl | rfl | rfl | rfl | rfl <;> simp [decodeFields, hn]

theorem wf_of_decodeFields (h : decodeFields opc a b arg = .ok i) : i.wf = true := by
  cases i with
  | rtuReadHoldingRegisters | rtuReadException | rtuWriteMultipleRegisters | rtuWriteException =>
    exact absurd rfl (encode_ne_frame_of_decodeFields h _)
  | _ => rfl

end Commands

section Frames
variable {bytes : List Byte} {i : Instr}

theorem decodeParts_read (u : Byte) (body : List Byte) (crc : Word) :
    decodeParts u 0x03 body crc =
      if readBodyOk body.length then .ok (.rtuReadHoldingRegisters u body crc)
      else .error (.badFrameLength 0x03 (body.length + 4)) := rfl

theorem decodeParts_write (u : Byte) (body : List Byte) (crc : Word) :
    decodeParts u 0x10 body crc =
      if writeBodyOk body.length then .ok (.rtuWriteMultipleRegisters u body crc)
      else .error (.badFrameLength 0x10 (body.length + 4)) := rfl

/-- A frame that decodes has a length that R90 gives its function code. -/
theorem wf_of_decodeFrame (h : decodeFrame bytes = .ok i) : i.wf = true := by
  have henc := encode_of_decodeFrame h
  cases i with
  | rtuReadHoldingRegisters u body crc =>
    cases henc
    rw [decodeFrame_frameBytes, decodeParts_read] at h
    split at h
    next hbody => exact hbody
    next => cases h
  | rtuWriteMultipleRegisters u body crc =>
    cases henc
    rw [decodeFrame_frameBytes, decodeParts_write] at h
    split at h
    next hbody => exact hbody
    next => cases h
  | _ => rfl

end Frames

/-- Settles O1: the fields put into the command word are those read from it, and a frame comes apart into its parts. -/
theorem decodeOfEncode : Obligations.DecodeOfEncode := by
  intro i hwf
  cases i with
  | crcCalc | crcVerify | crcAppend | frameReadReq | frameWriteReq | frameReadRsp | readHolding | writeMultiple
  | maskDecode => exact decode_commandCode_setWidth _ fun _ => rfl
  | rtuReadHoldingRegisters u body crc | rtuWriteMultipleRegisters u body crc =>
    exact (decodeFrame_frameBytes u _ body crc).trans (if_pos hwf)
  | rtuReadException u code crc => exact decodeFrame_frameBytes u 0x83 [code] crc
  | rtuWriteException u code crc => exact decodeFrame_frameBytes u 0x90 [code] crc
  | _ => exact decode_commandCode _ _ _ _

/-- Settles O2: a frame's bytes determine its parts, and a command is encoded again under its own code. -/
theorem decodedWordsReencode : Obligations.DecodedWordsReencode := by
  refine ⟨fun bytes i h => ⟨wf_of_decodeFrame h, encode_of_decodeFrame h⟩, fun cmd arg i h => ?_,
    fun cmd arg arg' hopc hn => ?_⟩
  · obtain ⟨a, b, arg', henc⟩ := encode_eq_commandCode (encode_ne_frame_of_decodeFields h)
    refine ⟨_, _, henc, ?_, ?_⟩
    · rw [opcOf_cmdWord, rowByte_of_decodeFields h]
    · rw [← commandCode, ← henc]
      exact decodeOfEncode i (wf_of_decodeFields h)
  · rw [← nOf_eq_setWidth, ← nOf_eq_setWidth] at hn
    exact decodeFields_congr_nOf _ _ hopc hn

/-- Settles O3: the codes are read from the table of R82, and each link command from its row. -/
theorem assignedCommandCodes : Obligations.AssignedCommandCodes := by
  rintro cmd arg _ _ _ _ rfl rfl rfl rfl
  refine ⟨decodeFields_ok_of_mem _ _ _, decodeFields_of_not_mem _ _ _, ?_⟩
  and_intros <;> exact decode_command_of_opc

/-- Settles O4: the decoder is evaluated on each word. -/
theorem writtenOutWordsDecode : Obligations.WrittenOutWordsDecode := ⟨rfl, rfl, rfl, rfl, rfl⟩

end Sys2Proof

/-! PROOF. The steps that run an instruction (30_encoding.md R81, R84, R89): the issue of a command, and a block step on
the frame its buffer holds. -/

namespace Sys2Proof.Machine

section Issue
variable {s : State} {c : Reg}

theorem issue_of_decode {i : Instr} (hidle : s.status.busy = false) (h : decodeCommand c s.arg = .ok i) :
    issue s c = exec i (s.accept c) := by
  simp [issue, hidle, h]

theorem issue_of_unassigned (hidle : s.status.busy = false) (h : opcOf c ∉ assignedCodes) :
    issue s c = .next ((s.accept c).raise .unassignedOpcode) := by
  have hdecode : decodeCommand c s.arg = .error (.unassignedOpcode (opcOf c)) := decodeFields_of_not_mem _ _ _ h
  simp [issue, hidle, hdecode]

end Issue

/-- Settles O5: the step is the issue of the command, which the block is free to accept. -/
theorem stepRunsIssuedCommand : Obligations.StepRunsIssuedCommand := by
  intro s c rest i hin hidle hdecode
  exact (step_hostWrite_cmd hin).trans (issue_of_decode (s := s.nextTurn rest) hidle hdecode)

/-- Settles O7: a code outside the table of R82 decodes to no command. -/
theorem unassignedCodeEndsAtOnce : Obligations.UnassignedCodeEndsAtOnce := by
  intro s c rest hin hidle hopc
  exact (step_hostWrite_cmd hin).trans (issue_of_unassigned (s := s.nextTurn rest) hidle hopc)

/-! ### A block step does not look at the turns to come -/

/-- The state with other turns to come. -/
def State.withInputs (s : State) (inputs : List Input) : State := { s with inputs := inputs }

/-- A change of the state that neither reads nor writes the turns to come. -/
def IgnoresInputs (f : State → State) : Prop := ∀ s inputs, f (s.withInputs inputs) = (f s).withInputs inputs

theorem onFailRunning_ignoresInputs : IgnoresInputs State.onFailRunning := by
  intro s inputs
  have hrun : (s.withInputs inputs).running = s.running := rfl
  rw [State.onFailRunning, State.onFailRunning, hrun]
  cases s.running with
  | error e => rfl
  | ok i => cases i <;> rfl

theorem commitRunning_ignoresInputs : IgnoresInputs State.commitRunning := by
  intro s inputs
  have hrun : (s.withInputs inputs).running = s.running := rfl
  rw [State.commitRunning, State.commitRunning, hrun]
  cases s.running with
  | error e => rfl
  | ok i => cases i <;> rfl

theorem endFail_ignoresInputs (e : CmdError) (x : Byte) :
    IgnoresInputs fun s => s.endFail State.onFailRunning e x := by
  intro s inputs
  simp only [State.endFail, onFailRunning_ignoresInputs s inputs]
  rfl

theorem startTxn_ignoresInputs (k : Nat) (d : TxnDesc) :
    IgnoresInputs fun s => s.startTxn State.onFailRunning k d := by
  intro s inputs
  have hlink : (s.withInputs inputs).link = s.link := rfl
  simp only [State.startTxn, hlink]
  split
  · rfl
  · exact endFail_ignoresInputs .notOpen 0 (s.atTxn k) inputs

theorem sendStep_ignoresInputs (frame : List Byte) : IgnoresInputs fun s => s.sendStep frame := by
  intro s inputs
  have hlink : (s.withInputs inputs).link = s.link := rfl
  simp only [State.sendStep, hlink]
  cases s.link.discard.send frame with
  | none => exact endFail_ignoresInputs .sendFailed 0 { s with link := s.link.discard } inputs
  | some l => rfl

theorem pollStep_ignoresInputs : IgnoresInputs State.pollStep := by
  intro s inputs
  have htake : (s.withInputs inputs).takeBytes = s.takeBytes.withInputs inputs := rfl
  have htr : (s.takeBytes.withInputs inputs).tr = s.takeBytes.tr := rfl
  have hcount : (s.takeBytes.withInputs inputs).rxCount = s.takeBytes.rxCount := rfl
  have hbytes : (s.takeBytes.withInputs inputs).rxBytes = s.takeBytes.rxBytes := rfl
  simp only [State.pollStep, htake, htr, hcount, hbytes]
  split
  · rfl
  · split
    · exact endFail_ignoresInputs .replyIncomplete 0 s.takeBytes inputs
    · rfl

theorem validateStep_ignoresInputs (rx : List Byte) : IgnoresInputs fun s => s.validateStep rx := by
  intro s inputs
  have htr : (s.withInputs inputs).tr = s.tr := rfl
  have hidx : (s.withInputs inputs).seq = s.seq := rfl
  have hstage (w : List Word) : (s.withInputs inputs).stageWords s.seq.idx.toNat w =
    (s.stageWords s.seq.idx.toNat w).withInputs inputs := rfl
  have htd (t : State) : (t.withInputs inputs).td = t.td := rfl
  simp only [State.validateStep, htr, hidx, hstage, htd]
  cases s.tr.validate rx with
  | error p => exact endFail_ignoresInputs p.1 p.2 s inputs
  | ok w =>
    dsimp only
    cases (s.stageWords s.seq.idx.toNat w).td[s.seq.idx.toNat + 1]? with
    | some d => exact startTxn_ignoresInputs _ d _ inputs
    | none => exact congrArg State.endOk (commitRunning_ignoresInputs _ inputs)

theorem blockNext_ignoresInputs : IgnoresInputs State.blockNext := by
  intro s inputs
  have hstatus : (s.withInputs inputs).status = s.status := rfl
  have htx : (s.withInputs inputs).txBytes = s.txBytes := rfl
  have hrx : (s.withInputs inputs).rxBytes = s.rxBytes := rfl
  simp only [State.blockNext, hstatus, htx, hrx]
  cases s.status.state with
  | idle => rfl
  | sending =>
    dsimp only
    split
    · rfl
    · exact sendStep_ignoresInputs _ s inputs
  | awaiting => exact pollStep_ignoresInputs s inputs
  | validating => exact validateStep_ignoresInputs _ s inputs

section BlockTurns
variable {s s' : State} {i : Instr}

theorem blockStep_of_sending (hstate : s.status.state = .sending) (h : decodeFrame s.txBytes = .ok i) :
    blockStep s = exec i s := by
  simp [blockStep, hstate, runFrame, h]

theorem blockStep_of_validating (hstate : s.status.state = .validating) (h : decodeFrame s.rxBytes = .ok i) :
    blockStep s = exec i s := by
  simp [blockStep, hstate, runFrame, h]

/-- The block's own step, or a block turn of the list, is `blockStep` at the state it is taken in (log 4). -/
theorem step_eq_blockStep
    (h : (s.inputs = [] ∧ s' = s) ∨
      (∃ rest, s.inputs = .block :: rest ∧ s' = { s with inputs := rest, draws := s.draws + 1 })) :
    s'.status = s.status ∧ step s = blockStep s' := by
  rcases h with ⟨hin, rfl⟩ | ⟨rest, hin, rfl⟩
  · exact ⟨rfl, step_of_inputs_nil _ hin⟩
  · exact ⟨rfl, step_of_inputs_cons hin⟩

end BlockTurns

/-- Settles O6: both kinds of turn are a `blockStep`, and that does not look at the turns to come. -/
theorem blockStepRunsDecodedFrame : Obligations.BlockStepRunsDecodedFrame := by
  refine ⟨fun s s' i hturn => ?_, fun s t rest hin hstep => ?_⟩
  · obtain ⟨hstatus, hstep⟩ := step_eq_blockStep hturn
    rw [hstep, ← hstatus]
    exact ⟨fun hstate _ => blockStep_of_sending hstate, blockStep_of_validating⟩
  · obtain rfl : ((s.nextTurn rest).withInputs []).blockNext = t :=
      Host.Outcome.next.inj
        (((step_of_inputs_nil _ rfl).trans (takeInput_block ((s.nextTurn rest).withInputs []))).symm.trans hstep)
    calc step s
        = .next (((s.nextTurn rest).withInputs []).withInputs rest).blockNext := step_block hin
      _ = .next (((s.nextTurn rest).withInputs []).blockNext.withInputs rest) := by
        rw [blockNext_ignoresInputs _ rest]

end Sys2Proof.Machine

/-! PROOF. Replies closed by their CRC (41_rtu_frame.md R130, R131, R134, R135): a normal reply is accepted with its
words, an exception reply is reported with its code. -/

namespace Sys2Proof.Machine

/-- A sequence of one byte or more, closed by its CRC, verifies (40_crc.md R107). -/
@[simp] theorem verify_appendCrc_cons (b : Byte) (d : List Byte) : verify (appendCrc (b :: d)) = true := by
  simp [verify, appendCrc]

theorem appendCrc_getD {d : List Byte} {i : Nat} (h : i < d.length) : (appendCrc d).getD i 0 = d.getD i 0 :=
  List.getD_append d _ 0 i h

/-- The reply of R90 to a read of `ws.length` registers, with the words `ws`. -/
def readReply (u : Byte) (ws : List Word) : List Byte :=
  appendCrc ([u, 0x03, BitVec.ofNat 8 (2 * ws.length)] ++ wordBytes ws)

section Replies
variable {u : Byte} {ws : List Word}

theorem readReply_length (u : Byte) (ws : List Word) : (readReply u ws).length = 5 + 2 * ws.length := by
  simp [readReply]
  omega

/-- The payload of a read reply begins at byte 3. -/
theorem readReply_getD {i : Nat} (h : i < 2 * ws.length) :
    (readReply u ws).getD (3 + i) 0 = (wordBytes ws).getD i 0 := by
  rw [readReply, appendCrc_getD (by simp; omega), List.getD_append_right _ _ _ _ (by simp)]
  simp

theorem replyWords_readReply (u : Byte) (ws : List Word) : replyWords (readReply u ws) ws.length = ws := by
  apply List.ext_getElem (replyWords_length _ _)
  intro i _ h
  obtain ⟨hhi, hlo⟩ := wordBytes_getD ws i h
  have hfirst : (readReply u ws).getD (3 + 2 * i) 0 = hi (ws.getD i 0) := (readReply_getD (by omega)).trans hhi
  have hsecond : (readReply u ws).getD (3 + (2 * i + 1)) 0 = lo (ws.getD i 0) := (readReply_getD (by omega)).trans hlo
  rw [show 3 + (2 * i + 1) = 4 + 2 * i by omega] at hsecond
  simp only [replyWords, List.getElem_map, List.getElem_range, hfirst, hsecond, be16_hi_lo]
  exact List.getD_eq_getElem ws 0 h

theorem needRead_readReply (u : Byte) (ws : List Word) (c : Nat) : needRead (readReply u ws) c = 5 + 2 * c := by
  simp [needRead, readReply, appendCrc]

theorem validateRead_readReply (h : ws.length ≤ 127) : validateRead (readReply u ws) u ws.length = .ok ws := by
  have hverify : verify (readReply u ws) = true := verify_appendCrc_cons _ _
  have hcount : (BitVec.ofNat 8 (2 * ws.length)).toNat = 2 * ws.length := by
    rw [BitVec.toNat_ofNat]
    omega
  rw [validateRead, hverify, replyWords_readReply]
  simp [readReply, appendCrc]
  omega

end Replies

theorem needWrite_ack (u b2 b3 b4 b5 : Byte) : needWrite (appendCrc [u, 0x10, b2, b3, b4, b5]) = 8 := by
  simp [needWrite, appendCrc]

theorem validateWrite_ack (u b2 b3 b4 b5 : Byte) :
    validateWrite (appendCrc [u, 0x10, b2, b3, b4, b5]) u = .ok [] := by
  rw [validateWrite, verify_appendCrc_cons]
  simp [appendCrc]

theorem validateRead_exception (u code : Byte) (c : Nat) :
    validateRead (appendCrc [u, 0x83, code]) u c = .error (.exception, code) := by
  rw [validateRead, verify_appendCrc_cons]
  simp [appendCrc]

theorem validateWrite_exception (u code : Byte) :
    validateWrite (appendCrc [u, 0x90, code]) u = .error (.exception, code) := by
  rw [validateWrite, verify_appendCrc_cons]
  simp [appendCrc]

/-- Settles O23: the CRC put in is the CRC checked, and the bytes of each word are read back as the word. -/
theorem validRepliesAreAccepted : Obligations.ValidRepliesAreAccepted := by
  refine ⟨fun u ws _ hmax => ⟨?_, validateRead_readReply hmax⟩, fun u b2 b3 b4 b5 => ⟨?_, validateWrite_ack ..⟩⟩
  · exact (readReply_length u ws).trans (needRead_readReply u ws ws.length).symm
  · rw [needWrite_ack, appendCrc_length]
    rfl

end Sys2Proof.Machine

/-! PROOF. The wire frames as instructions (30_encoding.md R89, R90): a request that is sent
(42_rtu_transaction.md R153), and a reply that fails its checks or ends the command (R159, R160). -/

namespace Sys2Proof.Machine

/-- A frame whose last two bytes are the CRC of the others. -/
theorem frameBytes_crc16 (u fc : Byte) (body : List Byte) :
    frameBytes u fc body (crc16 (u :: fc :: body)) = appendCrc (u :: fc :: body) := rfl

theorem lo_eq_setWidth (w : Word) : lo w = w.setWidth 8 := (BitVec.setWidth_eq_extractLsb' (by decide)).symm

theorem hi_eq_setWidth (w : Word) : hi w = (w >>> 8).setWidth 8 := by
  apply BitVec.eq_of_toNat_eq
  rw [hi, BitVec.extractLsb'_toNat, BitVec.toNat_setWidth, BitVec.toNat_ushiftRight]

section Sending
variable {s : State}

/-- The transport takes the request: the old contents of both queues are gone, and polling begins (R153). -/
def State.afterSend (s : State) (frame : List Byte) : State :=
  { s with
    link := { s.link with txq := frame, rxq := [], cut := false }
    tr := { s.tr with r := s.cfg.pollRetries }
    status := { s.status with state := .awaiting, retriesLeft := s.cfg.pollRetries } }

theorem sendStep_of_open (hopen : s.link.isOpen = true) (haccepts : s.link.refuses = false) (frame : List Byte) :
    s.sendStep frame = s.afterSend frame := by
  rcases s.sendStep_cases frame with ⟨-, -, heq⟩ | ⟨hrefused, -⟩
  · exact heq
  · simp [hopen, haccepts] at hrefused

theorem requestOrReply_of_sending (h : s.status.state = .sending) (frame : List Byte) :
    s.requestOrReply frame = s.sendStep frame := by
  rw [State.requestOrReply, h]

end Sending

theorem cellsHold_cellsWrite {w : Nat} (vs : List (BitVec w)) (m : Store w) : cellsHold (cellsWrite 0 vs m) vs :=
  fun i hi => by simpa using cellGet_cellsWrite_inside vs 0 i m hi

section Validating
variable {s : State} {rx : List Byte} {w : List Word} {i : Instr}

/-- In VALIDATING every wire frame is the reply judged (log 7). -/
theorem exec_of_validating (hstate : s.status.state = .validating) (henc : encode i = .frame rx) :
    exec i s = .next (s.validateStep rx) := by
  cases i with
  | rtuReadHoldingRegisters | rtuWriteMultipleRegisters =>
    cases henc
    change Host.Outcome.next (s.requestOrReply _) = _
    rw [State.requestOrReply, hstate]
  | rtuReadException | rtuWriteException =>
    cases henc
    change Host.Outcome.next (s.replyOnly _) = _
    rw [State.replyOnly, hstate]
  | _ => cases henc

theorem onFailRunning_of_opc (h : s.cur.opc ≠ 0x42) : s.onFailRunning = s := by
  unfold State.onFailRunning
  cases hrun : s.running with
  | error e => rfl
  | ok i =>
    cases i with
    | readSnapshot => exact absurd (rowByte_of_decodeFields hrun).symm h
    | _ => rfl

/-- A reply that fails a check ends the command, if that is not READ_SNAPSHOT, with no other effect (R160). -/
theorem validateStep_of_error {e : CmdError} {x : Byte} (hopc : s.cur.opc ≠ 0x42)
    (h : s.tr.validate rx = .error (e, x)) : s.validateStep rx = s.afterEndFail e x := by
  simp only [State.validateStep, h, State.endFail, onFailRunning_of_opc hopc]
  rfl

theorem Tr.validate_read {t : Tr} (h : t.fc = 0x03) (rx : List Byte) :
    t.validate rx = validateRead rx t.unit t.count.toNat := if_pos h

theorem Tr.validate_write {t : Tr} (h : t.fc = 0x10) (rx : List Byte) : t.validate rx = validateWrite rx t.unit :=
  if_neg (by rw [h]; decide)

/-- The valid reply of the last transaction is staged and committed, and the command ends (R159, R160). -/
theorem validateStep_of_last (hlast : s.td.length = s.seq.idx.toNat + 1) (h : s.tr.validate rx = .ok w) :
    s.validateStep rx = (s.stageWords s.seq.idx.toNat w).commitRunning.endOk := by
  have hnone : s.td[s.seq.idx.toNat + 1]? = none := List.getElem?_eq_none hlast.le
  simp only [State.validateStep, h, State.stageWords_td, hnone]

/-- The valid reply of a command's only transaction. -/
theorem validateStep_of_only (hlast : s.td.length = s.seq.idx.toNat + 1) (hidx : s.seq.idx = 0)
    (h : s.tr.validate rx = .ok w) : s.validateStep rx = (s.stageWords 0 w).commitRunning.endOk := by
  rw [validateStep_of_last hlast h, hidx]
  rfl

theorem commitRunning_readHolding (h : s.cur.opc = 0x14) :
    s.commitRunning = { s with
      wbuf := cellsWrite 0 (s.staged 0) s.wbuf, result := s.cur.arg &&& 0xFFFF, resultWritten := true } := by
  have hrun : s.running = .ok (.readHolding s.cur.a s.cur.b (nOf s.cur.arg)) := by
    rw [State.running, h]
    rfl
  rw [commitRunning_of_running hrun, ← setWidth_nOf]
  rfl

theorem commitRunning_writeMultiple (h : s.cur.opc = 0x15) :
    s.commitRunning = { s with result := s.cur.arg &&& 0xFFFF, resultWritten := true } := by
  have hrun : s.running = .ok (.writeMultiple s.cur.a s.cur.b (nOf s.cur.arg)) := by
    rw [State.running, h]
    rfl
  rw [commitRunning_of_running hrun, ← setWidth_nOf]
  rfl

/-- The six single-register writes have one commit (44_device_ops.md R226). -/
theorem commitRunning_write (h : s.cur.opc ∈ [0x43, 0x44, 0x45, 0x46, 0x47, 0x48]) :
    s.commitRunning = s.commitWrite := by
  simp only [List.mem_cons, List.not_mem_nil, or_false] at h
  rw [State.commitRunning, State.running]
  rcases h with h | h | h | h | h | h <;> rw [h] <;> rfl

theorem commitWrite_of_single {d : TxnDesc} {v : Word} (htd : s.td = [d]) (hd : d.values = [v]) :
    s.commitWrite = { s with result := v.setWidth 32, resultWritten := true } := by
  simp [State.commitWrite, State.setResult, htd, hd]

/-- READ_HOLDING ends with the words of its reply in WBUF (R163). -/
theorem validateStep_readHolding (hlast : s.td.length = s.seq.idx.toNat + 1) (hidx : s.seq.idx = 0)
    (hopc : s.cur.opc = 0x14) (h : s.tr.validate rx = .ok w) :
    s.validateStep rx = { s with
      stage := [w], wbuf := cellsWrite 0 w s.wbuf
      result := s.cur.arg &&& 0xFFFF, resultWritten := true }.afterEndOk := by
  rw [validateStep_of_only hlast hidx h, commitRunning_readHolding (s := s.stageWords 0 w) hopc]
  rfl

end Validating

/-- The ack of a write, whatever its bytes 2 to 5, validates (41_rtu_frame.md R135). -/
theorem validateWrite_of_length_eq_four {u : Byte} {body : List Byte} (h : body.length = 4) :
    validateWrite (appendCrc (u :: 0x10 :: body)) u = .ok [] := by
  obtain ⟨b2, b3, b4, b5, rfl⟩ := List.length_eq_four.mp h
  exact validateWrite_ack u b2 b3 b4 b5

/-- Settles O39: a request in SENDING is the SENDING step, and any frame in VALIDATING the VALIDATING step. -/
theorem wireFramesComplete : Obligations.WireFramesComplete := by
  intro s u code body crc
  refine ⟨fun hstate hopen haccepts t ht => ?sent, fun hstate hopc => ⟨fun i bytes e x henc hinvalid => ?failed,
    fun hunit hfc hcrc => ?readException, fun hunit hfc hcrc => ?writeException⟩,
    fun hstate hunit htd hidx => ⟨fun ws hfc hopc _ hmax hcount _ hbody hcrc => ?words, fun hfc hbody hcrc => ?ack⟩⟩
  case sent =>
    subst ht
    have hsent (frame : List Byte) : s.requestOrReply frame = s.afterSend frame :=
      (requestOrReply_of_sending hstate frame).trans (sendStep_of_open hopen haccepts frame)
    rw [← lo_eq_setWidth, ← hi_eq_setWidth]
    exact ⟨congrArg _ (hsent (frameBytes u 0x03 body crc)), congrArg _ (hsent (frameBytes u 0x10 body crc))⟩
  case failed => rw [exec_of_validating hstate henc, validateStep_of_error hopc hinvalid]
  case readException =>
    have hinvalid : s.tr.validate (appendCrc [u, 0x83, code]) = .error (.exception, code) := by
      rw [Tr.validate_read hfc, hunit, validateRead_exception]
    subst hcrc
    rw [exec_of_validating hstate rfl]
    exact congrArg _ (validateStep_of_error hopc hinvalid)
  case writeException =>
    have hinvalid : s.tr.validate (appendCrc [u, 0x90, code]) = .error (.exception, code) := by
      rw [Tr.validate_write hfc, hunit, validateWrite_exception]
    subst hcrc
    rw [exec_of_validating hstate rfl]
    exact congrArg _ (validateStep_of_error hopc hinvalid)
  case words =>
    have hvalid : s.tr.validate (readReply u ws) = .ok ws := by
      rw [Tr.validate_read hfc, hunit, ← hcount, validateRead_readReply hmax]
    subst hbody hcrc
    refine ⟨cellsWrite 0 ws s.wbuf, cellsHold_cellsWrite ws s.wbuf,
      fun a ha => cellGet_cellsWrite_outside ws 0 a s.wbuf (by omega), ?_⟩
    rw [exec_of_validating hstate rfl]
    exact congrArg _ (validateStep_readHolding htd hidx hopc hvalid)
  case ack =>
    have hvalid : s.tr.validate (appendCrc (u :: 0x10 :: body)) = .ok [] := by
      rw [Tr.validate_write hfc, hunit, validateWrite_of_length_eq_four hbody]
    subst hcrc
    have hexec : exec (.rtuWriteMultipleRegisters u body (crc16 (u :: 0x10 :: body))) s =
        .next (s.stageWords 0 []).commitRunning.endOk :=
      (exec_of_validating hstate rfl).trans (congrArg _ (validateStep_of_only htd hidx hvalid))
    rw [hexec]
    refine ⟨fun hopc => ?_, fun d v hopc hone hv => ?_⟩
    · rw [commitRunning_writeMultiple (s := s.stageWords 0 []) hopc]
      rfl
    · rw [commitRunning_write (s := s.stageWords 0 []) hopc,
        commitWrite_of_single (s := s.stageWords 0 []) hone hv]
      rfl

end Sys2Proof.Machine

/-! PROOF. A READ_HOLDING from the host's CMD write to its results (42_rtu_transaction.md R150, R163): one lemma for
each of its turns, in the order of the turns. -/

namespace Sys2Proof.Machine

/-- A run takes its first step, and the rest of the run follows it. -/
theorem run_succ {M : Host.Core} {s s' t : M.State} {k : Nat} (hstep : M.step s = .next s')
    (hrun : M.run k s' = .next t) : M.run (k + 1) s = .next t := by
  rw [Host.Core.run, hstep]
  exact hrun

theorem core_run_succ {s s' t : State} {k : Nat} (hstep : step s = .next s')
    (hrun : Sys2Proof.core.run k s' = .next t) : Sys2Proof.core.run (k + 1) s = .next t :=
  run_succ (M := Sys2Proof.core) hstep hrun

section Issue
variable {s : State} {u : Byte} {start : Word} {rest : List Input} {f : State → State}

theorem begin_of_open (hopen : s.link.isOpen = true) (d : TxnDesc) (tds : List TxnDesc) :
    s.begin f (d :: tds) = s.afterStart (d :: tds) 0 d := by
  rw [State.begin_cons]
  exact if_pos hopen

theorem countOk_ofNat {n : Nat} (hmin : 1 ≤ n) (hmax : n ≤ 127) : countOk (BitVec.ofNat 16 n) = true := by
  rw [countOk_iff, BitVec.toNat_ofNat]
  omega

/-- The host's CMD write accepts READ_HOLDING and starts its transaction (R81, R163). -/
theorem step_issue_readHolding {n : Nat} (hin : s.inputs = .hostWrite 0 (cmdWord 0x14 u start) :: rest)
    (hidle : s.status.busy = false) (hopen : s.link.isOpen = true) (harg : s.arg = BitVec.ofNat 32 n)
    (hmin : 1 ≤ n) (hmax : n ≤ 127) :
    step s = .next (((s.nextTurn rest).accept (cmdWord 0x14 u start)).afterStart
      [readDesc u start (BitVec.ofNat 16 n)] 0 (readDesc u start (BitVec.ofNat 16 n))) := by
  have hn : nOf s.arg = BitVec.ofNat 16 n := by
    rw [harg, nOf_eq_setWidth, BitVec.setWidth_ofNat_of_le (by decide)]
  have hdecode : decodeCommand (cmdWord 0x14 u start) s.arg = .ok (.readHolding u start (BitVec.ofNat 16 n)) := by
    rw [← hn, decodeCommand, opcOf_cmdWord, aOf_cmdWord, bOf_cmdWord]
    rfl
  rw [step_hostWrite_cmd hin, issue_of_decode (s := s.nextTurn rest) hidle hdecode]
  change Host.Outcome.next (if countOk _ then _ else _) = _
  rw [if_pos (countOk_ofNat hmin hmax)]
  exact congrArg _ (begin_of_open (s := (s.nextTurn rest).accept (cmdWord 0x14 u start)) hopen _ _)

end Issue

/-- A length that fits its register. -/
theorem toNat_ofNat_of_le {w n m : Nat} (h : n ≤ m) (hm : m < 2 ^ w := by decide) : (BitVec.ofNat w n).toNat = n := by
  rw [BitVec.toNat_ofNat, Nat.mod_eq_of_lt (h.trans_lt hm)]

/-- A value of 16 bits is its own low half. -/
theorem ofNat_and_low {n : Nat} (h : n < 2 ^ 16) : BitVec.ofNat 32 n &&& 0xFFFF = BitVec.ofNat 32 n := by
  rw [← setWidth_nOf, nOf_eq_setWidth]
  apply BitVec.eq_of_toNat_eq
  simp only [BitVec.toNat_setWidth, BitVec.toNat_ofNat]
  omega

section Send
variable {s : State} {rest : List Input} {d : TxnDesc}

theorem txBytes_of_hold {s : State} {frame : List Byte} (hlen : s.txLen.toNat = frame.length)
    (hhold : cellsHold (w := 8) s.txbuf frame) : s.txBytes = frame := by
  rw [State.txBytes, hlen]
  exact cellsRead_eq_of_hold _ _ _ hhold

/-- The request of a transaction just started is in TXBUF (R152). -/
theorem txBytes_afterStart (hd : d.ok) (s : State) (td : List TxnDesc) (k : Nat) (rest : List Input) :
    ((s.afterStart td k d).nextTurn rest).txBytes = d.frame := by
  have hlen : (BitVec.ofNat 9 d.frame.length).toNat = d.frame.length := toNat_ofNat_of_le (frame_length_le hd)
  exact txBytes_of_hold hlen (cellsHold_cellsWrite d.frame s.txbuf)

/-- A block turn in SENDING hands the request to the transport (R153). -/
theorem step_send (hin : s.inputs = .block :: rest) (hstate : s.status.state = .sending)
    (hopen : s.link.isOpen = true) (haccepts : s.link.refuses = false) (hd : d.ok)
    (htx : (s.nextTurn rest).txBytes = d.frame) : step s = .next ((s.nextTurn rest).afterSend d.frame) := by
  have hsend : (s.nextTurn rest).blockNext = (s.nextTurn rest).sendStep d.frame := by
    simp [State.blockNext, hstate, htx, isExceptionFrame_frame hd]
  rw [step_block hin, hsend, sendStep_of_open (s := s.nextTurn rest) hopen haccepts]

end Send

section Poll
variable {s : State} {rest : List Input} {reply : List Byte}

/-- A poll takes all of RXQ when no part of it is enough. -/
theorem collect_all {need : List Byte → Nat} : ∀ (q rx : List Byte),
    (∀ p t, q = p ++ t → t ≠ [] → (rx ++ p).length < need (rx ++ p)) → collect need rx q = (rx ++ q, []) := by
  intro q
  induction q with
  | nil => intro rx _; simp [collect]
  | cons b q ih =>
    intro rx hshort
    have hfirst : rx.length < need rx := by simpa using hshort [] (b :: q) rfl nofun
    rw [collect, if_pos hfirst, ih]
    · simp
    · intro p t hq ht
      simpa using hshort (b :: p) t (by rw [hq]; rfl) ht

/-- The length a read reply needs is known to be the normal one as long as no exception code has come (R130). -/
theorem needRead_of_append {p t : List Byte} (c : Nat) (h : (p ++ t)[1]? ≠ some 0x83) : needRead p c = 5 + 2 * c := by
  refine if_neg fun hp => h ?_
  rwa [List.getElem?_append_left (List.getElem?_eq_some_iff.mp hp).1]

theorem collect_readReply {t : Tr} {u : Byte} {ws : List Word} (hfc : t.fc = 0x03)
    (hcount : t.count.toNat = ws.length) : collect t.need [] (readReply u ws) = (readReply u ws, []) := by
  refine collect_all _ _ fun p q hsplit hq => ?_
  have hcode : (p ++ q)[1]? ≠ some 0x83 := by
    rw [← hsplit]
    simp [readReply, appendCrc]
  have hneed : t.need p = 5 + 2 * ws.length := by rw [Tr.need, if_pos hfc, needRead_of_append _ hcode, hcount]
  have hlen := congrArg List.length hsplit
  have hpos := List.length_pos_iff.mpr hq
  rw [readReply_length, List.length_append] at hlen
  rw [List.nil_append, hneed]
  omega

/-- The reply is complete after one poll, and nothing else is in RXQ (R156). -/
def State.afterPoll (s : State) (reply : List Byte) : State :=
  { s with
    rxbuf := cellsWrite (w := 8) 0 reply s.rxbuf
    rxCount := BitVec.ofNat 9 reply.length
    link := { s.link with rxq := [] }
    status := { s.status with state := .validating, retriesLeft := 0 } }

theorem rxBytes_of_rxCount_zero (h : s.rxCount = 0) : s.rxBytes = [] :=
  List.eq_nil_of_length_eq_zero (by rw [rxBytes_length, h]; rfl)

/-- The reply that a poll has completed is in RXBUF. -/
theorem rxBytes_afterPoll (hfit : reply.length ≤ 259) (s : State) (rest : List Input) :
    ((s.afterPoll reply).nextTurn rest).rxBytes = reply := by
  have hlen : ((s.afterPoll reply).nextTurn rest).rxCount.toNat = reply.length := toNat_ofNat_of_le hfit
  rw [State.rxBytes, hlen]
  exact cellsRead_eq_of_hold _ _ _ (cellsHold_cellsWrite reply s.rxbuf)

theorem takeBytes_of_collected (hcount : s.rxCount = 0) (hrxq : s.link.rxq = reply)
    (hall : collect s.tr.need [] reply = (reply, [])) :
    s.takeBytes = { s with
      rxbuf := cellsWrite (w := 8) 0 reply s.rxbuf
      rxCount := BitVec.ofNat 9 reply.length
      link := { s.link with rxq := [] } } := by
  simp only [State.takeBytes, rxBytes_of_rxCount_zero hcount, hrxq, hall]
  rfl

/-- A poll that finds the whole reply in RXQ completes it. -/
theorem pollStep_of_collected (hcount : s.rxCount = 0) (hrxq : s.link.rxq = reply)
    (hall : collect s.tr.need [] reply = (reply, [])) (hneed : reply.length = s.tr.need reply)
    (hfit : reply.length ≤ 259) : s.pollStep = s.afterPoll reply := by
  have htake := takeBytes_of_collected hcount hrxq hall
  have hlen : s.takeBytes.rxCount.toNat = reply.length := by
    rw [htake]
    exact toNat_ofNat_of_le hfit
  have hbytes : s.takeBytes.rxBytes = reply := by
    rw [State.rxBytes, hlen, htake]
    exact cellsRead_eq_of_hold _ _ _ (cellsHold_cellsWrite reply s.rxbuf)
  have hcomplete : s.takeBytes.rxCount.toNat = s.tr.need s.takeBytes.rxBytes := by rw [hlen, hbytes, hneed]
  rcases s.pollStep_cases with ⟨-, heq⟩ | ⟨hne, -⟩ | ⟨hne, -⟩
  · rw [heq, htake]
    rfl
  · exact absurd hcomplete hne
  · exact absurd hcomplete hne

/-- A block turn in AWAITING, with the whole reply to a read in RXQ, goes on to VALIDATING (R156). -/
theorem step_poll_readReply {u : Byte} {ws : List Word} (hin : s.inputs = .block :: rest)
    (hstate : s.status.state = .awaiting) (hcount : s.rxCount = 0) (hfc : s.tr.fc = 0x03)
    (hwords : s.tr.count.toNat = ws.length) (hmax : ws.length ≤ 127) (hrxq : s.link.rxq = readReply u ws) :
    step s = .next ((s.nextTurn rest).afterPoll (readReply u ws)) := by
  have hpoll : (s.nextTurn rest).blockNext = (s.nextTurn rest).pollStep := by simp [State.blockNext, hstate]
  have hneed : (readReply u ws).length = s.tr.need (readReply u ws) := by
    rw [Tr.need, if_pos hfc, needRead_readReply, hwords, readReply_length]
  rw [step_block hin, hpoll, pollStep_of_collected (s := s.nextTurn rest) hcount hrxq (collect_readReply hfc hwords)
    hneed (by rw [readReply_length]; omega)]

end Poll

/-- A block turn in VALIDATING, with the valid reply in RXBUF, ends READ_HOLDING with its words in WBUF (R159, R163). -/
theorem step_validate_readHolding {s : State} {rest : List Input} {rx : List Byte} {w : List Word}
    (hin : s.inputs = .block :: rest) (hstate : s.status.state = .validating) (hrx : (s.nextTurn rest).rxBytes = rx)
    (hlast : s.td.length = s.seq.idx.toNat + 1) (hidx : s.seq.idx = 0) (hopc : s.cur.opc = 0x14)
    (hvalid : s.tr.validate rx = .ok w) :
    step s = .next { s.nextTurn rest with
      stage := [w], wbuf := cellsWrite 0 w s.wbuf
      result := s.cur.arg &&& 0xFFFF, resultWritten := true }.afterEndOk := by
  have hvalidate : (s.nextTurn rest).blockNext = (s.nextTurn rest).validateStep rx := by
    simp [State.blockNext, hstate, hrx]
  rw [step_block hin, hvalidate, validateStep_readHolding (s := s.nextTurn rest) hlast hidx hopc hvalid]
  rfl

/-- Settles O32: the five turns one after the other, each from the state the one before it leaves. -/
theorem readHoldingEndToEnd : Obligations.ReadHoldingEndToEnd := by
  intro s u start ws hmin hmax _ hidle harg hopen haccepts hin
  have hd : (readDesc u start (BitVec.ofNat 16 ws.length)).ok := readDesc_ok (countOk_ofNat hmin hmax)
  have hwords : (BitVec.ofNat 16 ws.length).toNat = ws.length := toNat_ofNat_of_le hmax
  have hvalid : validateRead (readReply u ws) u (BitVec.ofNat 16 ws.length).toNat = .ok ws := by
    rw [hwords, validateRead_readReply hmax]
  have hfit : (readReply u ws).length ≤ 259 := by
    rw [readReply_length]
    omega
  have hissue := step_issue_readHolding hin hidle hopen harg hmin hmax
  refine ⟨?final, ?run, ?results⟩
  case run =>
    refine core_run_succ hissue ?_
    refine core_run_succ (step_send rfl rfl hopen haccepts hd (txBytes_afterStart hd _ _ _ _)) ?_
    refine core_run_succ (step_linkReceive_of_not_isCut rfl rfl) ?_
    refine core_run_succ (step_poll_readReply rfl rfl rfl rfl hwords hmax rfl) ?_
    refine core_run_succ (step_validate_readHolding rfl rfl (rxBytes_afterPoll hfit _ _) rfl rfl
      (opcOf_cmdWord 0x14 u start) hvalid) ?_
    rfl
  case results =>
    refine ⟨cellsHold_cellsWrite ws s.wbuf, fun a ha => cellGet_cellsWrite_outside ws 0 a s.wbuf (by omega), ?result,
      rfl, rfl, ?link, rfl, rfl, rfl, rfl, rfl, rfl, rfl, rfl⟩
    case result =>
      change s.arg &&& 0xFFFF = _
      rw [harg, ofNat_and_low (by omega)]
    case link =>
      change Link.mk s.link.isOpen s.link.refuses _ [] false = _
      rw [hopen, haccepts]
      rfl

end Sys2Proof.Machine

/-! PROOF. The checksum function (40_crc.md R101, R104, R106, R107): every shift of R101 can be undone, so two sequences
that differ in one byte have different CRCs, and a single wrong byte of a sequence closed by its CRC is detected. -/

namespace Sys2Proof.Machine

theorem crc16_append_singleton (d : List Byte) (b : Byte) : crc16 (d ++ [b]) = crcByte (crc16 d) b :=
  List.foldl_append

/-- Settles O16: the accumulator takes the bytes in order, so the last byte is taken last. -/
theorem crcOfCanonicalVector : Obligations.CrcOfCanonicalVector :=
  ⟨rfl, crc16_append_singleton, by decide +kernel⟩

/-- The bit shifted out is the top bit of the result: 0xA001 has its top bit set. -/
theorem crcShift_getLsbD_top (acc : Word) : (crcShift acc).getLsbD 15 = acc.getLsbD 0 := by
  cases h : acc.getLsbD 0 <;> rw [crcShift, h] <;> simp

/-- The top bit tells whether the XOR took place, and the rest are the bits shifted down. -/
theorem crcShift_injective : Function.Injective crcShift := by
  intro x y h
  have hbit : x.getLsbD 0 = y.getLsbD 0 := by rw [← crcShift_getLsbD_top x, h, crcShift_getLsbD_top]
  have hrest : x >>> 1 = y >>> 1 := by
    rw [crcShift, crcShift, ← hbit] at h
    split at h
    · exact (BitVec.xor_left_inj _).mp h
    · exact h
  apply BitVec.eq_of_getLsbD_eq
  intro i _
  cases i with
  | zero => exact hbit
  | succ i => simpa [Nat.add_comm] using congrArg (·.getLsbD i) hrest

/-- The result of R101's 8 shifts determines what they started from, the accumulator with the byte XORed in. -/
theorem crcByte_eq_iff {acc acc' : Word} {b b' : Byte} :
    crcByte acc b = crcByte acc' b' ↔ acc ^^^ b.setWidth 16 = acc' ^^^ b'.setWidth 16 :=
  (crcShift_injective.iterate 8).eq_iff

theorem crcByte_injective_acc (b : Byte) : Function.Injective (crcByte · b) := fun _ _ h =>
  (BitVec.xor_left_inj _).mp (crcByte_eq_iff.mp h)

theorem crcByte_injective_byte (acc : Word) : Function.Injective (crcByte acc) := by
  intro b c h
  have hwide : b.setWidth 16 = c.setWidth 16 := (BitVec.xor_right_inj _).mp (crcByte_eq_iff.mp h)
  simpa using congrArg (BitVec.setWidth 8) hwide

theorem foldl_crcByte_injective (d : List Byte) : Function.Injective (d.foldl crcByte) := by
  induction d with
  | nil => exact fun _ _ h => h
  | cons b d ih => exact ih.comp (crcByte_injective_acc b)

/-- Two sequences that differ in exactly one byte have different CRCs. -/
theorem crc16_replace_byte_ne {a a' : Byte} (hne : a' ≠ a) (l₁ l₂ : List Byte) :
    crc16 (l₁ ++ a' :: l₂) ≠ crc16 (l₁ ++ a :: l₂) := by
  intro h
  rw [crc16, crc16, List.foldl_append, List.foldl_append] at h
  exact hne (crcByte_injective_byte _ (foldl_crcByte_injective l₂ h))

/-- The length test of R106. -/
theorem verify_of_length_lt {s : List Byte} (h : s.length < 3) : verify s = false := by
  simp [verify, h]

/-- R106 for a sequence given with its last two bytes apart. -/
theorem verify_append_pair (d : List Byte) (x y : Byte) :
    verify (d ++ [x, y]) = true ↔ d ≠ [] ∧ crc16 d = be16 y x := by
  cases d <;> simp [verify]

theorem verify_appendCrc {d : List Byte} (h : d ≠ []) : verify (appendCrc d) = true := by
  obtain ⟨b, d, rfl⟩ := List.exists_cons_of_ne_nil h
  exact verify_appendCrc_cons b d

/-- Settles O17: a non-empty sequence has a first byte; the empty one, closed by its CRC, is too short (log 16). -/
theorem crcAppendedVerifies : Obligations.CrcAppendedVerifies :=
  ⟨fun _ => verify_appendCrc, verify_of_length_lt (by simp)⟩

/-- One wrong byte is detected, whether it is the high byte of the CRC, the low byte or a byte of the data. -/
theorem verify_replace_byte {a a' : Byte} {l₁ l₂ : List Byte} (hne : a' ≠ a)
    (h : verify (l₁ ++ a :: l₂) = true) : verify (l₁ ++ a' :: l₂) = false := by
  rw [Bool.eq_false_iff]
  intro h'
  rcases List.eq_nil_or_concat' l₂ with rfl | ⟨m, y, rfl⟩
  case inl =>
    rcases List.eq_nil_or_concat' l₁ with rfl | ⟨d, x, rfl⟩
    · exact absurd h' (by simp [verify])
    · simp only [List.append_assoc, List.cons_append, List.nil_append, verify_append_pair] at h h'
      obtain ⟨-, hcrc⟩ := h
      obtain ⟨-, hcrc'⟩ := h'
      have hpair : be16 a' x = be16 a x := hcrc'.symm.trans hcrc
      exact hne (by simpa using congrArg hi hpair)
  case inr =>
    rcases List.eq_nil_or_concat' m with rfl | ⟨m, x, rfl⟩
    · simp only [List.nil_append, verify_append_pair] at h h'
      obtain ⟨-, hcrc⟩ := h
      obtain ⟨-, hcrc'⟩ := h'
      have hpair : be16 y a' = be16 y a := hcrc'.symm.trans hcrc
      exact hne (by simpa using congrArg lo hpair)
    · have hsplit (b : Byte) : l₁ ++ b :: (m ++ [x] ++ [y]) = (l₁ ++ b :: m) ++ [x, y] := by simp
      rw [hsplit, verify_append_pair] at h h'
      obtain ⟨-, hcrc⟩ := h
      obtain ⟨-, hcrc'⟩ := h'
      exact crc16_replace_byte_ne hne l₁ m (hcrc'.trans hcrc.symm)

theorem xor_bit_ne {b : Nat} (hb : b < 8) (a : Byte) : a ^^^ (1#8 <<< b) ≠ a := by
  intro h
  simpa [hb] using congrArg (·.getLsbD b) h

/-- Settles O18: a flipped bit is one wrong byte; the empty sequence never verifies (log 16). -/
theorem crcDetectsSingleBitErrors : Obligations.CrcDetectsSingleBitErrors := by
  intro d k b hk hb
  by_cases hd : d = []
  · exact verify_of_length_lt (by simp [hd])
  · obtain ⟨l₁, a, l₂, hsplit, -, hflip⟩ :=
      List.exists_of_modify (· ^^^ (1#8 <<< b)) (l := appendCrc d) (by rwa [appendCrc_length])
    rw [hflip]
    exact verify_replace_byte (xor_bit_ne hb a) (hsplit ▸ verify_appendCrc hd)

end Sys2Proof.Machine

/-! PROOF. CRC_CALC, CRC_VERIFY, CRC_APPEND (40_crc.md R102, R105, R108). -/

namespace Sys2Proof.Machine

theorem lenExceeds_of_lt {s : State} {n : Nat} (h : s.bufLen.toNat < n) : s.lenExceeds n = true :=
  decide_eq_true h

theorem lenExceeds_of_le {s : State} {n : Nat} (h : n ≤ s.bufLen.toNat) : s.lenExceeds n = false :=
  decide_eq_false (Nat.not_lt.mpr h)

@[simp] theorem bufBytes_length (s : State) (n : Nat) : (s.bufBytes n).length = n := cellsRead_length ..

theorem exec_crcCalc (n : Word) (s : State) : exec (.crcCalc n) s = execCrcCalc n s := rfl

theorem exec_crcVerify (n : Word) (s : State) : exec (.crcVerify n) s = execCrcVerify n s := rfl

theorem exec_crcAppend (n : Word) (s : State) : exec (.crcAppend n) s = execCrcAppend n s := rfl

/-- `complete` and `raise` are the endings the statements write out (60_exceptions.md R256). -/
theorem complete_eq_afterSuccess (s : State) (v : Reg) : s.complete v = s.afterSuccess v := rfl

theorem raise_eq_afterError (s : State) (e : CmdError) : s.raise e = s.afterError e := rfl

/-- Settles O13: the length test, then the CRC of the bytes read. -/
theorem crcCalcResult : Obligations.CrcCalcResult := by
  refine ⟨fun _ _ => decode_command_of_opc, fun n s => ⟨fun hle => ?fits, fun hlt => ?long⟩⟩
  case fits => simp [exec_crcCalc, execCrcCalc, lenExceeds_of_le hle, complete_eq_afterSuccess]
  case long => simp [exec_crcCalc, execCrcCalc, lenExceeds_of_lt hlt, raise_eq_afterError]

/-- A word is its low byte and 256 times its high byte. -/
theorem toNat_eq_lo_add_hi (w : Word) : w.toNat = (lo w).toNat + 256 * (hi w).toNat := by
  have hlt := w.isLt
  rw [lo, hi, BitVec.extractLsb'_toNat, BitVec.extractLsb'_toNat]
  omega

theorem be16_toNat (a b : Byte) : (be16 a b).toNat = b.toNat + 256 * a.toNat := by
  rw [toNat_eq_lo_add_hi, lo_be16, hi_be16]

/-- R106 read as numbers, for a sequence long enough. -/
theorem verify_iff_toNat {s : List Byte} (h : 3 ≤ s.length) :
    verify s = true ↔ (crc16 (s.take (s.length - 2))).toNat =
      (s.getD (s.length - 2) 0).toNat + 256 * (s.getD (s.length - 1) 0).toNat := by
  rw [← be16_toNat, ← BitVec.toNat_eq]
  simp [verify, h]

/-- Settles O14: the length test of R105, then R106 as numbers. -/
theorem crcVerifyResult : Obligations.CrcVerifyResult := by
  refine ⟨fun _ _ => decode_command_of_opc,
    fun n s => ⟨fun hle hshort => ?short, fun hle hmin => ?compared, fun hlt => ?long⟩⟩
  case short =>
    have hverify : verify (s.bufBytes n.toNat) = false := verify_of_length_lt (by rwa [bufBytes_length])
    simp [exec_crcVerify, execCrcVerify, lenExceeds_of_le hle, hverify, complete_eq_afterSuccess]
  case compared =>
    have hverify := verify_iff_toNat (s := s.bufBytes n.toNat) (by rwa [bufBytes_length])
    rw [bufBytes_length] at hverify
    simp [exec_crcVerify, execCrcVerify, lenExceeds_of_le hle, hverify, complete_eq_afterSuccess]
  case long => simp [exec_crcVerify, execCrcVerify, lenExceeds_of_lt hlt, raise_eq_afterError]

/-- What the cells hold after a CRC is written at cell `a`, low byte first (R108). -/
theorem cellGet_write_crc (m : Memory) (a : Nat) (c : Word) :
    cellGet (w := 8) (cellsWrite (w := 8) a [lo c, hi c] m) a = some (c.setWidth 8) ∧
    cellGet (w := 8) (cellsWrite (w := 8) a [lo c, hi c] m) (a + 1) = some ((c >>> 8).setWidth 8) ∧
    ∀ b, b ≠ a → b ≠ a + 1 → cellGet (w := 8) (cellsWrite (w := 8) a [lo c, hi c] m) b = cellGet (w := 8) m b := by
  rw [← lo_eq_setWidth, ← hi_eq_setWidth]
  refine ⟨cellGet_cellsWrite_inside [lo c, hi c] a 0 m (by simp),
    cellGet_cellsWrite_inside [lo c, hi c] a 1 m (by simp), fun b h₀ h₁ => ?_⟩
  exact cellGet_cellsWrite_outside [lo c, hi c] a b m (by simp; omega)

/-- Settles O15: the length test, the capacity test, then the two bytes written after the data. -/
theorem crcAppendResult : Obligations.CrcAppendResult := by
  refine ⟨fun _ _ => decode_command_of_opc,
    fun n s => ⟨fun hle hmax => ?fits, fun hle hcap => ?full, fun hlt => ?long⟩⟩
  case fits =>
    obtain ⟨hlo, hhi, hframe⟩ := cellGet_write_crc s.buf n.toNat (crc16 (s.bufBytes n.toNat))
    refine ⟨_, _, rfl, hlo, hhi, hframe, ?_⟩
    have hlen : BitVec.ofNat 9 (n.toNat + 2) = n.setWidth 9 + 2 := by
      rw [BitVec.ofNat_add, BitVec.ofNat_toNat]; rfl
    have hroom : ¬ n.toNat + 2 > Config.bufCap := by rw [Config.bufCap]; omega
    simp [exec_crcAppend, execCrcAppend, lenExceeds_of_le hle, hroom, hlen, complete_eq_afterSuccess]
  case full =>
    have hroom : n.toNat + 2 > Config.bufCap := by rw [Config.bufCap]; omega
    simp [exec_crcAppend, execCrcAppend, lenExceeds_of_le hle, hroom, raise_eq_afterError]
  case long => simp [exec_crcAppend, execCrcAppend, lenExceeds_of_lt hlt, raise_eq_afterError]

end Sys2Proof.Machine

/-! PROOF. What the two reply validators decide (41_rtu_frame.md R130 to R137): the checks they share, in their order,
and the payload check that follows them. -/

namespace Sys2Proof.Machine

/-! ### The reply length needed -/

/-- A byte 1 that has come, said of the bytes collected. -/
theorem getElem?_one_eq_some_iff {rx : List Byte} {b : Byte} :
    rx[1]? = some b ↔ 2 ≤ rx.length ∧ rx.getD 1 0 = b := by
  rw [List.getElem?_eq_some_iff]
  constructor
  · rintro ⟨hlen, hb⟩
    exact ⟨hlen, by rw [List.getD_eq_getElem _ _ hlen, hb]⟩
  · rintro ⟨hlen, hb⟩
    exact ⟨hlen, by rw [← hb, List.getD_eq_getElem _ _ hlen]⟩

theorem needRead_eq (rx : List Byte) (c : Nat) :
    needRead rx c = if 2 ≤ rx.length ∧ rx.getD 1 0 = 0x83 then 5 else 5 + 2 * c := by
  simp only [needRead, getElem?_one_eq_some_iff]

theorem needWrite_eq (rx : List Byte) :
    needWrite rx = if 2 ≤ rx.length ∧ rx.getD 1 0 = 0x90 then 5 else 8 := by
  simp only [needWrite, getElem?_one_eq_some_iff]

/-- Settles O24: the length is read off byte 1, and an exception reply gets as far as the third check. -/
theorem exceptionReplyCarriesItsCode : Obligations.ExceptionReplyCarriesItsCode := by
  refine ⟨fun rx c => ?lengths, fun u code c =>
    ⟨rfl, validateRead_exception u code c, rfl, validateWrite_exception u code⟩⟩
  have hother {b : Byte} (h : rx.length < 2 ∨ rx.getD 1 0 ≠ b) : ¬ (2 ≤ rx.length ∧ rx.getD 1 0 = b) := by
    rintro ⟨hlen, hb⟩
    exact h.elim (Nat.not_lt.mpr hlen) (· hb)
  rw [needRead_eq, needWrite_eq]
  exact ⟨fun hlen hb => if_pos ⟨hlen, hb⟩, fun h => if_neg (hother h),
    fun hlen hb => if_pos ⟨hlen, hb⟩, fun h => if_neg (hother h)⟩

/-! ### The checks in their order -/

/-- The first four checks of R131 and of R135, for a reply with function code `code`, or `exc` of an exception reply; a
reply that passes them is left to `payload`. -/
def checkReply (code exc : Byte) (payload : Validated) (rx : List Byte) (u : Byte) : Validated :=
  if verify rx = false then .error (.crcMismatch, 0)
  else if rx.getD 0 0 ≠ u then .error (.address, 0)
  else if rx.getD 1 0 = exc then .error (.exception, rx.getD 2 0)
  else if rx.getD 1 0 ≠ code then .error (.functionCode, 0)
  else payload

/-- The last check of R131, and the words. -/
def readPayload (rx : List Byte) (c : Nat) : Validated :=
  if (rx.getD 2 0).toNat ≠ 2 * c then .error (.byteCount, 0) else .ok (replyWords rx c)

theorem validateRead_eq_checkReply (rx : List Byte) (u : Byte) (c : Nat) :
    validateRead rx u c = checkReply 0x03 0x83 (readPayload rx c) rx u := rfl

theorem validateWrite_eq_checkReply (rx : List Byte) (u : Byte) :
    validateWrite rx u = checkReply 0x10 0x90 (.ok []) rx u := rfl

section Checks
variable {code exc u : Byte} {payload r : Validated} {rx : List Byte} {c : Nat}

/-- The first check that fails decides; a reply that passes all four has its payload's result. -/
theorem checkReply_eq_iff (hcodes : code ≠ exc) : checkReply code exc payload rx u = r ↔
    verify rx = false ∧ r = .error (.crcMismatch, 0) ∨
    verify rx = true ∧ rx.getD 0 0 ≠ u ∧ r = .error (.address, 0) ∨
    verify rx = true ∧ rx.getD 0 0 = u ∧ rx.getD 1 0 = exc ∧ r = .error (.exception, rx.getD 2 0) ∨
    verify rx = true ∧ rx.getD 0 0 = u ∧ rx.getD 1 0 ≠ exc ∧ rx.getD 1 0 ≠ code ∧
      r = .error (.functionCode, 0) ∨
    verify rx = true ∧ rx.getD 0 0 = u ∧ rx.getD 1 0 = code ∧ r = payload := by
  have hcode : rx.getD 1 0 ≠ exc ∧ rx.getD 1 0 = code ∧ r = payload ↔ rx.getD 1 0 = code ∧ r = payload :=
    and_iff_right_of_imp fun ⟨hcode, _⟩ => hcode ▸ hcodes
  rw [eq_comm, ← hcode]
  simp only [checkReply, eq_ite_iff, ne_eq, not_not, Bool.not_eq_false, and_or_left]

theorem eq_readPayload_iff : r = readPayload rx c ↔
    (rx.getD 2 0).toNat ≠ 2 * c ∧ r = .error (.byteCount, 0) ∨
    (rx.getD 2 0).toNat = 2 * c ∧ r = .ok (replyWords rx c) := by
  simp only [readPayload, eq_ite_iff, ne_eq, not_not]

/-- The words of a reply, as numbers (R131). -/
theorem eq_replyWords_iff {w : List Word} : w = replyWords rx c ↔
    w.length = c ∧ ∀ i, (h : i < w.length) →
      w[i].toNat = 256 * (rx.getD (3 + 2 * i) 0).toNat + (rx.getD (4 + 2 * i) 0).toNat := by
  have hword (i : Nat) : (be16 (rx.getD (3 + 2 * i) 0) (rx.getD (4 + 2 * i) 0)).toNat =
      256 * (rx.getD (3 + 2 * i) 0).toNat + (rx.getD (4 + 2 * i) 0).toNat := by
    rw [be16_toNat, Nat.add_comm]
  constructor
  · rintro rfl
    refine ⟨replyWords_length rx c, fun i hi => ?_⟩
    simp only [replyWords, List.getElem_map, List.getElem_range, hword]
  · rintro ⟨rfl, hw⟩
    refine List.ext_getElem (replyWords_length rx _).symm fun i hi _ => BitVec.eq_of_toNat_eq ?_
    simp only [replyWords, List.getElem_map, List.getElem_range, hword, hw i hi]

end Checks

/-- Settles O25: each result names the check that decides, and so which checks have passed. -/
theorem replyChecksInOrder : Obligations.ReplyChecksInOrder := by
  intro rx u c
  have hread : (0x03 : Byte) ≠ 0x83 := by decide
  have hwrite : (0x10 : Byte) ≠ 0x90 := by decide
  simp only [validateRead_eq_checkReply, validateWrite_eq_checkReply, checkReply_eq_iff hread,
    checkReply_eq_iff hwrite, eq_readPayload_iff]
  refine ⟨?_, ?_, fun x => ?_, ?_, ?_, fun w => ?_, ?_, ?_, fun x => ?_, ?_, fun w => ?_⟩
  all_goals simp [eq_replyWords_iff]

end Sys2Proof.Machine

/-! PROOF. FRAME_READ_REQ, FRAME_WRITE_REQ, FRAME_READ_RSP, FRAME_WRITE_RSP (41_rtu_frame.md R121, R124, R132, R136). -/

namespace Sys2Proof.Machine

theorem exec_frameReadReq (u : Byte) (start c : Word) (s : State) :
    exec (.frameReadReq u start c) s = execFrameReadReq u start c s := rfl

theorem exec_frameWriteReq (u : Byte) (start n : Word) (s : State) :
    exec (.frameWriteReq u start n) s = execFrameWriteReq u start n s := rfl

theorem exec_frameReadRsp (u : Byte) (c : Word) (s : State) :
    exec (.frameReadRsp u c) s = execFrameReadRsp u c s := rfl

theorem exec_frameWriteRsp (u : Byte) (s : State) : exec (.frameWriteRsp u) s = execFrameWriteRsp u s := rfl

section Counts
variable {c : Word}

theorem countOk_of_range (hmin : 1 ≤ c.toNat) (hmax : c.toNat ≤ 127) : countOk c = true :=
  (countOk_iff c).mpr ⟨hmin, hmax⟩

theorem countOk_of_outside (h : c.toNat = 0 ∨ 127 < c.toNat) : countOk c = false := by
  rw [Bool.eq_false_iff, Ne, countOk_iff]
  omega

end Counts

/-! ### The requests -/

/-- The read request, with the bytes of its words as the statements write them (R120). -/
theorem buildRead_eq (u : Byte) (start c : Word) : buildRead u start c =
    appendCrc [u, 0x03, (start >>> 8).setWidth 8, start.setWidth 8, (c >>> 8).setWidth 8, c.setWidth 8] := by
  simp only [buildRead, lo_eq_setWidth, hi_eq_setWidth]

/-- The write request of `n` values, likewise (R123). -/
theorem buildWrite_eq {n : Word} {v : List Word} (hlen : v.length = n.toNat) (u : Byte) (start : Word) :
    buildWrite u start v =
      appendCrc ([u, 0x10, (start >>> 8).setWidth 8, start.setWidth 8, (n >>> 8).setWidth 8, n.setWidth 8,
        BitVec.ofNat 8 (2 * n.toNat)] ++ wordBytes v) := by
  simp only [buildWrite, hlen, BitVec.ofNat_toNat, BitVec.setWidth_eq, lo_eq_setWidth, hi_eq_setWidth]

@[simp] theorem wbufWords_length (s : State) (n : Nat) : (s.wbufWords n).length = n := cellsRead_length ..

/-- Values written from cell 0 on: what the cells hold, and what is left as it was. -/
theorem cellGet_cellsWrite_zero {w : Nat} (vs : List (BitVec w)) (m : Store w) :
    (∀ i, i < vs.length → cellGet (cellsWrite 0 vs m) i = vs[i]?) ∧
    (∀ a, vs.length ≤ a → cellGet (cellsWrite 0 vs m) a = cellGet m a) := by
  refine ⟨fun i hi => ?_, fun a ha => cellGet_cellsWrite_outside vs 0 a m (by omega)⟩
  rw [cellsHold_cellsWrite vs m i hi, List.getElem?_eq_getElem hi]

/-- A request of `n` bytes put into BUF: its bytes, the cells left as they were, and the state after it (R121, R124). -/
theorem putFrame_spec (s : State) {frame : List Byte} {n : Nat} (hlen : frame.length = n) :
    ∃ m : Memory,
      (∀ i, i < n → cellGet (w := 8) m i = frame[i]?) ∧
      (∀ a, n ≤ a → cellGet (w := 8) m a = cellGet (w := 8) s.buf a) ∧
      s.putFrame frame = { s with buf := m, bufLen := BitVec.ofNat 9 n }.afterSuccess (BitVec.ofNat 32 n) := by
  subst hlen
  obtain ⟨hinside, houtside⟩ := cellGet_cellsWrite_zero frame s.buf
  exact ⟨_, hinside, houtside, rfl⟩

/-- Settles O19: the count test, then the request put into BUF. -/
theorem frameReadReqResult : Obligations.FrameReadReqResult := by
  refine ⟨fun _ _ => decode_command_of_opc, fun u start c s => ⟨fun hmin hmax => ?fits, fun hout => ?count⟩⟩
  case fits =>
    rw [exec_frameReadReq, execFrameReadReq, if_pos (countOk_of_range hmin hmax), ← buildRead_eq]
    obtain ⟨m, hinside, houtside, hput⟩ := putFrame_spec s (buildRead_length u start c)
    exact ⟨m, hinside, houtside, congrArg _ hput⟩
  case count => simp [exec_frameReadReq, execFrameReadReq, countOk_of_outside hout, raise_eq_afterError]

/-- Settles O20: the count test, then the request put into BUF with the values WBUF holds. -/
theorem frameWriteReqResult : Obligations.FrameWriteReqResult := by
  refine ⟨fun _ _ => decode_command_of_opc, fun u start n s => ⟨fun hmin hmax => ?fits, fun hout => ?count⟩⟩
  case fits =>
    have hwords : (s.wbufWords n.toNat).length = n.toNat := wbufWords_length s _
    have hlen : (buildWrite u start (s.wbufWords n.toNat)).length = 9 + 2 * n.toNat := by
      rw [buildWrite_length, hwords]
    rw [exec_frameWriteReq, execFrameWriteReq, if_pos (countOk_of_range hmin hmax), ← buildWrite_eq hwords]
    obtain ⟨m, hinside, houtside, hput⟩ := putFrame_spec s hlen
    exact ⟨m, hinside, houtside, congrArg _ hput⟩
  case count => simp [exec_frameWriteReq, execFrameWriteReq, countOk_of_outside hout, raise_eq_afterError]

/-! ### The replies -/

/-- A reply decoder that fails writes EXC_CODE and ends with the error (R132, R136). -/
theorem raise_setExcCode_eq_afterError (s : State) (e : CmdError) (x : Byte) :
    (s.setExcCode x).raise e = { s with status := { s.status with excCode := x } }.afterError e := rfl

/-- Settles O21: the count test, the length test, then the validator. -/
theorem frameReadRspResult : Obligations.FrameReadRspResult := by
  refine ⟨fun _ _ => decode_command_of_opc, fun u c s L hL =>
    ⟨fun hout => ?count, fun hmin hmax hlt => ?short,
      fun hmin hmax hle => ⟨fun w hvalid => ?valid, fun e x hbad => ?invalid⟩⟩⟩
  all_goals subst hL
  case count => simp [exec_frameReadRsp, execFrameReadRsp, countOk_of_outside hout, raise_eq_afterError]
  case short =>
    simp [exec_frameReadRsp, execFrameReadRsp, countOk_of_range hmin hmax, lenExceeds_of_lt hlt, raise_eq_afterError]
  case valid =>
    obtain ⟨hinside, houtside⟩ := cellGet_cellsWrite_zero w s.wbuf
    rw [validateRead_length hvalid] at hinside houtside
    refine ⟨_, hinside, houtside, ?_⟩
    simp [exec_frameReadRsp, execFrameReadRsp, countOk_of_range hmin hmax, lenExceeds_of_le hle, hvalid,
      complete_eq_afterSuccess]
  case invalid =>
    simp [exec_frameReadRsp, execFrameReadRsp, countOk_of_range hmin hmax, lenExceeds_of_le hle, hbad,
      raise_setExcCode_eq_afterError]

/-- Settles O22: the length test, then the validator. -/
theorem frameWriteRspResult : Obligations.FrameWriteRspResult := by
  refine ⟨fun _ _ => decode_command_of_opc, fun u s L hL =>
    ⟨fun hlt => ?short, fun hle => ⟨fun w hvalid => ?valid, fun e x hbad => ?invalid⟩⟩⟩
  all_goals subst hL
  case short => simp [exec_frameWriteRsp, execFrameWriteRsp, lenExceeds_of_lt hlt, raise_eq_afterError]
  case valid =>
    simp [exec_frameWriteRsp, execFrameWriteRsp, lenExceeds_of_le hle, hvalid, complete_eq_afterSuccess]
  case invalid =>
    simp [exec_frameWriteRsp, execFrameWriteRsp, lenExceeds_of_le hle, hbad, raise_setExcCode_eq_afterError]

end Sys2Proof.Machine

/-! PROOF. READ_HOLDING and WRITE_MULTIPLE at the step that accepts them (42_rtu_transaction.md R152, R163, R166). -/

namespace Sys2Proof.Machine

theorem exec_readHolding (u : Byte) (start c : Word) (s : State) :
    exec (.readHolding u start c) s = execReadHolding u start c s := rfl

theorem exec_writeMultiple (u : Byte) (start n : Word) (s : State) :
    exec (.writeMultiple u start n) s = execWriteMultiple u start n s := rfl

/-- Settles O26: the count test, then transaction 0 with the request of its descriptor. -/
theorem engineCommandsStart : Obligations.EngineCommandsStart := by
  refine ⟨fun u start c s d hd => ⟨fun hmin hmax hopen => ⟨?readFrame, ?readStart⟩, fun hout => ?readCount⟩,
    fun u start n s d hd => ⟨fun hmin hmax hopen => ⟨?writeFrame, ?writeStart⟩, fun hout => ?writeCount⟩⟩
  all_goals subst hd
  case readFrame => exact buildRead_eq u start c
  case readStart => simp [exec_readHolding, execReadHolding, countOk_of_range hmin hmax, begin_of_open hopen]
  case readCount => simp [exec_readHolding, execReadHolding, countOk_of_outside hout, raise_eq_afterError]
  case writeFrame => exact buildWrite_eq (wbufWords_length s _) u start
  case writeStart => simp [exec_writeMultiple, execWriteMultiple, countOk_of_range hmin hmax, begin_of_open hopen]
  case writeCount => simp [exec_writeMultiple, execWriteMultiple, countOk_of_outside hout, raise_eq_afterError]

end Sys2Proof.Machine

/-! PROOF. The poll (42_rtu_transaction.md R156): the bytes it takes, and the three states it can leave. -/

namespace Sys2Proof.Machine

section Poll
variable {s : State} {taken rest : List Byte}

/-- With no input left the block takes its own step (log 4). -/
theorem step_eq_blockNext (h : s.inputs = []) : step s = .next s.blockNext :=
  (step_of_inputs_nil s h).trans (takeInput_block s)

theorem blockNext_of_awaiting (h : s.status.state = .awaiting) : s.blockNext = s.pollStep := by
  simp only [State.blockNext, h]

theorem blockNext_of_validating (h : s.status.state = .validating) : s.blockNext = s.validateStep s.rxBytes := by
  simp only [State.blockNext, h]

theorem Tr.need_read {t : Tr} (h : t.fc = 0x03) (rx : List Byte) : t.need rx = needRead rx t.count.toNat := if_pos h

theorem Tr.need_write {t : Tr} (h : t.fc = 0x10) (rx : List Byte) : t.need rx = needWrite rx :=
  if_neg (by rw [h]; decide)

/-- `end_fail` of any command but READ_SNAPSHOT (R160). -/
theorem endFail_onFailRunning_of_opc (h : s.cur.opc ≠ 0x42) (e : CmdError) (x : Byte) :
    s.endFail State.onFailRunning e x = s.afterEndFail e x := by
  rw [State.endFail, onFailRunning_of_opc h]
  rfl

/-- The bytes `taken` have gone from the front of RXQ to the end of RXBUF, and `rest` is left in RXQ. -/
def State.afterTake (s : State) (taken rest : List Byte) : State :=
  { s with
    rxbuf := cellsWrite (w := 8) s.rxCount.toNat taken s.rxbuf
    rxCount := BitVec.ofNat 9 (s.rxCount.toNat + taken.length)
    link := { s.link with rxq := rest } }

theorem takeBytes_of_collect (h : collect s.tr.need s.rxBytes s.link.rxq = (s.rxBytes ++ taken, rest)) :
    s.takeBytes = s.afterTake taken rest := by
  simp only [State.takeBytes, State.afterTake, h, List.length_append, List.drop_left' (rxBytes_length s),
    rxBytes_length]

/-- A poll takes bytes from the front of RXQ, stops at the length the reply needs, and leaves none while it is short. -/
theorem Running.exists_taken (h : Running s) : ∃ taken rest,
    s.link.rxq = taken ++ rest ∧
    (s.rxBytes ++ taken).length ≤ s.tr.need (s.rxBytes ++ taken) ∧
    ((s.rxBytes ++ taken).length < s.tr.need (s.rxBytes ++ taken) → rest = []) ∧
    s.collected = s.rxBytes ++ taken ∧
    s.takeBytes = s.afterTake taken rest := by
  obtain ⟨taken, hcollected, hrxq⟩ := collect_split s.tr.need s.rxBytes s.link.rxq
  have hle := h.collected_length_le
  have hstops := collect_stops s.tr.need s.rxBytes s.link.rxq
  rw [State.collected, hcollected] at hle
  rw [hcollected] at hstops
  exact ⟨taken, _, hrxq, hle, fun hlt => hstops.resolve_left (Nat.not_le.mpr hlt), hcollected,
    takeBytes_of_collect (Prod.ext hcollected rfl)⟩

/-- A poll, by the bytes then collected: the reply is complete, or it was the last poll, or one fewer is left. -/
theorem Running.pollStep_eq (h : Running s) : s.pollStep =
    if s.collected.length = s.tr.need s.collected then
      { s.takeBytes with status := { s.status with state := .validating, retriesLeft := 0 } }
    else if s.tr.r = 0 then s.takeBytes.endFail State.onFailRunning .replyIncomplete 0
    else
      { s.takeBytes with
        tr := { s.tr with r := s.tr.r - 1 }
        status := { s.status with retriesLeft := s.tr.r - 1 } } := by
  rw [← h.takeBytes_rxCount, ← h.takeBytes_rxBytes]
  rfl

end Poll

/-- Settles O29: the bytes taken are those `collect` moves, and their number decides which state follows. -/
theorem pollStep : Obligations.PollStep := by
  intro s hinv hin hstate
  refine ⟨fun hfc rx => (Tr.need_read hfc rx).trans (needRead_eq rx _),
    fun hfc rx => (Tr.need_write hfc rx).trans (needWrite_eq rx), ?_⟩
  have hrun : Running s := hinv.running (hinv.busy_of_state hstate nofun)
  obtain ⟨taken, rest, hrxq, hle, hrest, hcollected, htake⟩ := hrun.exists_taken
  have hstep := (step_eq_blockNext hin).trans (congrArg _ ((blockNext_of_awaiting hstate).trans hrun.pollStep_eq))
  rw [hcollected, htake] at hstep
  refine ⟨taken, rest, _, s.afterTake taken rest, hrxq, hle, hrest, fun i hi => ?inside,
    fun a ha => cellGet_cellsWrite_outside taken s.rxCount.toNat a s.rxbuf ha, rfl, fun hcomplete => ?complete,
    fun hlt hr hopc => ?last, fun hlt hr => ?retry⟩
  case inside => rw [cellGet_cellsWrite_inside taken _ _ s.rxbuf hi, List.getElem?_eq_getElem hi]
  case complete => rw [hstep, if_pos hcomplete]
  case last => rw [hstep, if_neg hlt.ne, if_pos hr, endFail_onFailRunning_of_opc (s := s.afterTake taken rest) hopc]
  case retry => rw [hstep, if_neg hlt.ne, if_neg hr]

end Sys2Proof.Machine

/-! PROOF. The VALIDATING step (42_rtu_transaction.md R159): a failed check, or the next transaction. -/

namespace Sys2Proof.Machine

section Next
variable {s : State} {rx : List Byte} {w : List Word} {d : TxnDesc}

/-- Loading a transaction of the running command's own list, whose length SEQ_TOTAL holds (R152). -/
theorem loadTxn_eq_afterStart (htotal : s.seq.total = BitVec.ofNat 8 s.td.length) (k : Nat) (d : TxnDesc) :
    s.loadTxn k d = s.afterStart s.td k d := by
  rw [State.afterStart, ← htotal]
  rfl

/-- The valid reply of a transaction that is not the last is staged, and the next one starts (R159). -/
theorem validateStep_of_next (h : s.tr.validate rx = .ok w) (hd : s.td[s.seq.idx.toNat + 1]? = some d)
    (hopen : s.link.isOpen = true) (htotal : s.seq.total = BitVec.ofNat 8 s.td.length) :
    s.validateStep rx = (s.stageWords s.seq.idx.toNat w).afterStart s.td (s.seq.idx.toNat + 1) d := by
  have hstart : s.validateStep rx =
      (s.stageWords s.seq.idx.toNat w).startTxn State.onFailRunning (s.seq.idx.toNat + 1) d := by
    simp only [State.validateStep, h, State.stageWords_td, hd]
  rw [hstart, State.startTxn, State.stageWords_link, if_pos hopen]
  exact loadTxn_eq_afterStart (s := s.stageWords s.seq.idx.toNat w) htotal _ d

end Next

/-- Settles O30: the validator of TR.fc decides between the ending and the next transaction. -/
theorem validatingStep : Obligations.ValidatingStep := by
  intro s hin hstate
  have hstep : step s = .next (s.validateStep s.rxBytes) := by
    rw [step_eq_blockNext hin, blockNext_of_validating hstate]
  refine ⟨Tr.validate_read, Tr.validate_write, fun e x hinvalid hopc => ?failed,
    fun w d hvalid hd hopen htotal => ?next⟩
  case failed => rw [hstep, validateStep_of_error hopc hinvalid]
  case next => exact hstep.trans (congrArg _ (validateStep_of_next hvalid hd hopen htotal))

end Sys2Proof.Machine

/-! PROOF. A link command on a closed stream (42_rtu_transaction.md R152, 70_reset_and_hazards.md R285): it ends in the
step that accepts it, by `end_fail` with its own `on_fail`. -/

namespace Sys2Proof.Machine

section Closed
variable {s : State} {i : Instr} {td : List TxnDesc}

/-- `on_fail()` writes SNAP_ONLINE at most, and that for READ_SNAPSHOT alone (44_device_ops.md R224). -/
theorem onFail_eq (s : State) (i : Instr) : s.onFail i =
    { s with snap := if i = .readSnapshot then { s.snap with online := false } else s.snap } := by
  cases i with
  | readSnapshot => rfl
  | _ => rw [if_neg nofun]; rfl

/-- What a command leaves that begins with the list `td` on a closed stream: U, TD and SEQ, which are no results, and
the ending of R152 with the command's own `on_fail`. -/
def State.afterClosed (s : State) (i : Instr) (u : Byte) (td : List TxnDesc) (seq : Seq) : State :=
  { s with
    unit := u, td := td, seq := seq
    snap := if i = Instr.readSnapshot then { s.snap with online := false } else s.snap }.afterEndFail .notOpen 0

theorem begin_closed (hclosed : s.link.isOpen = false) (i : Instr) (d : TxnDesc) (tds : List TxnDesc) :
    ∃ seq, s.begin (State.onFail · i) (d :: tds) = s.afterClosed i s.unit (d :: tds) seq := by
  refine ⟨{ idx := 0, total := BitVec.ofNat 8 (tds.length + 1) }, ?_⟩
  rw [State.begin_cons, State.startTxn, if_neg (Bool.eq_false_iff.mp hclosed), State.endFail, onFail_eq]
  rfl

theorem devAccept_closed (hvalid : s.session.valid = true) (hclosed : s.link.isOpen = false) (i : Instr)
    {check : Except CmdError Unit} (hcheck : check = .ok ()) {tds : Byte → List TxnDesc}
    (htds : tds s.session.unit ≠ []) :
    ∃ u td seq, s.devAccept (State.onFail · i) check tds = s.afterClosed i u td seq := by
  obtain ⟨d, rest, hcons⟩ := List.exists_cons_of_ne_nil htds
  obtain ⟨seq, hbegin⟩ := begin_closed (s := { s with unit := s.session.unit }) hclosed i d rest
  refine ⟨s.session.unit, d :: rest, seq, ?_⟩
  rw [hcheck, State.devAccept, if_pos hvalid, hcons, hbegin]
  rfl

theorem writeAccept_closed (hvalid : s.session.valid = true) (hclosed : s.link.isOpen = false) (i : Instr)
    (hkeep : (State.onFail · i) = State.keep) {checked : Except CmdError Word} {v : Word}
    (hchecked : checked = .ok v) (addr : Word) :
    ∃ u td seq, s.writeAccept checked addr = s.afterClosed i u td seq := by
  rw [hchecked, State.writeAccept, ← hkeep]
  exact devAccept_closed hvalid hclosed i rfl (List.cons_ne_nil _ _)

/-- A link command with its operands in their domains, and with a session unit where it uses one. -/
theorem exec_of_closed (hdescs : descsOf s.session.unit i td) (hvalid : usesSession i = true → s.session.valid = true)
    (hclosed : s.link.isOpen = false) : ∃ u td seq, exec i s = .next (s.afterClosed i u td seq) := by
  suffices h : ∃ t, exec i s = .next t ∧ ∃ u td seq, t = s.afterClosed i u td seq by
    obtain ⟨_, hexec, u, td, seq, rfl⟩ := h
    exact ⟨u, td, seq, hexec⟩
  cases i with
  | readHolding u start c =>
    obtain ⟨hc, -⟩ := hdescs
    exact ⟨_, rfl, by rw [if_pos hc]; exact ⟨_, _, begin_closed hclosed (.readHolding u start c) _ _⟩⟩
  | writeMultiple u start n =>
    obtain ⟨hn, -⟩ := hdescs
    exact ⟨_, rfl, by rw [if_pos hn]; exact ⟨_, _, begin_closed hclosed (.writeMultiple u start n) _ _⟩⟩
  | readAllVoltages => exact ⟨_, rfl, devAccept_closed (hvalid rfl) hclosed .readAllVoltages rfl (List.cons_ne_nil _ _)⟩
  | readSingleVoltage ch =>
    obtain ⟨hch, -⟩ := hdescs
    exact ⟨_, rfl, devAccept_closed (hvalid rfl) hclosed (.readSingleVoltage ch) (by rw [hch]; rfl)
      (List.cons_ne_nil _ _)⟩
  | readSnapshot => exact ⟨_, rfl, devAccept_closed (hvalid rfl) hclosed .readSnapshot rfl (List.cons_ne_nil _ _)⟩
  | writeDeviceAddress a =>
    obtain ⟨hmin, hmax, -⟩ := hdescs
    exact ⟨_, rfl, writeAccept_closed (hvalid rfl) hclosed (.writeDeviceAddress a) rfl (if_pos ⟨hmin, hmax⟩) _⟩
  | writeBaudRate rate =>
    obtain ⟨code, hcode, -⟩ := hdescs
    exact ⟨_, rfl, writeAccept_closed (hvalid rfl) hclosed (.writeBaudRate rate) rfl (by rw [hcode]) _⟩
  | writeIoDirection v => exact ⟨_, rfl, writeAccept_closed (hvalid rfl) hclosed (.writeIoDirection v) rfl rfl _⟩
  | writeIoValue v => exact ⟨_, rfl, writeAccept_closed (hvalid rfl) hclosed (.writeIoValue v) rfl rfl _⟩
  | writeSetTemperature v =>
    exact ⟨_, rfl, writeAccept_closed (hvalid rfl) hclosed (.writeSetTemperature v) rfl rfl _⟩
  | writeDropThreshold ch x =>
    obtain ⟨hch, v, hv, -⟩ := hdescs
    exact ⟨_, rfl, writeAccept_closed (hvalid rfl) hclosed (.writeDropThreshold ch x) rfl (by rw [if_pos hch, hv]) _⟩
  | _ => exact hdescs.elim

end Closed

/-- Settles O27: every link command comes to the same `end_fail`, and its `on_fail` writes SNAP_ONLINE at most. -/
theorem closedStreamEndsTheCommand : Obligations.ClosedStreamEndsTheCommand := by
  intro i s td hdescs hvalid hclosed
  obtain ⟨u, td', seq, hexec⟩ := exec_of_closed hdescs hvalid hclosed
  refine ⟨_, hexec, ?_⟩
  simp only [State.afterClosed, State.afterEndFail, and_self]

end Sys2Proof.Machine

/-! PROOF. The SENDING step (42_rtu_transaction.md R153), and that no other block step of a transaction hands bytes to
the transport (R158, R162). -/

namespace Sys2Proof.Machine

section Sending
variable {s : State}

/-- While a command runs, the SENDING step sends what TXBUF holds, which is a request. -/
theorem Inv.step_of_sending (h : Inv s) (hin : s.inputs = []) (hstate : s.status.state = .sending) :
    step s = .next (s.sendStep s.txBytes) := by
  have hrequest := (h.running (h.busy_of_state hstate nofun)).isExceptionFrame_txBytes
  simp [step_eq_blockNext hin, State.blockNext, hstate, hrequest]

theorem sendStep_of_refused (hrefused : s.link.isOpen = false ∨ s.link.refuses = true) (frame : List Byte) :
    s.sendStep frame =
      { s with link := { s.link with txq := [], rxq := [] } }.endFail State.onFailRunning .sendFailed 0 := by
  rcases s.sendStep_cases frame with ⟨hopen, haccepts, -⟩ | ⟨-, heq⟩
  · simp [hopen, haccepts] at hrefused
  · exact heq

end Sending

/-- Settles O28: the transport takes the request or refuses it. -/
theorem sendingStep : Obligations.SendingStep := by
  intro s hinv hin hstate
  rw [hinv.step_of_sending hin hstate]
  refine ⟨fun hopen haccepts => ?sent, fun hrefused hopc => ?refused⟩
  case sent =>
    rw [sendStep_of_open hopen haccepts]
    rfl
  case refused =>
    rw [sendStep_of_refused hrefused]
    exact congrArg _
      (endFail_onFailRunning_of_opc (s := { s with link := { s.link with txq := [], rxq := [] } }) hopc .sendFailed 0)

/-! ### What a block step does to the link -/

theorem endFail_onFailRunning_link (s : State) (e : CmdError) (x : Byte) :
    (s.endFail State.onFailRunning e x).link = s.link := by
  change s.onFailRunning.link = s.link
  rcases onFailRunning_cases s with heq | heq <;> rw [heq]
  rfl

theorem endFail_onFailRunning_status (s : State) (e : CmdError) (x : Byte) :
    (s.endFail State.onFailRunning e x).status = { s.status.idled.raised e with excCode := x } := by
  have hstatus : s.onFailRunning.status = s.status := by
    rcases onFailRunning_cases s with heq | heq <;> rw [heq]
    rfl
  simp only [State.endFail, hstatus]

theorem startTxn_onFailRunning_link (s : State) (k : Nat) (d : TxnDesc) :
    (s.startTxn State.onFailRunning k d).link = s.link := by
  rcases s.startTxn_cases State.onFailRunning k d with ⟨-, heq⟩ | ⟨-, heq⟩ <;> rw [heq]
  · rfl
  · exact endFail_onFailRunning_link (s.atTxn k) .notOpen 0

theorem commitRunning_link (s : State) : s.commitRunning.link = s.link := by
  unfold State.commitRunning
  cases s.running with
  | error e => rfl
  | ok i => cases i <;> rfl

/-- A validation leaves the link alone, whatever it decides (R162). -/
theorem validateStep_link (s : State) (rx : List Byte) : (s.validateStep rx).link = s.link := by
  rcases s.validateStep_cases rx with ⟨e, x, -, heq⟩ | ⟨w, d, -, -, heq⟩ | ⟨w, -, -, heq⟩ <;> rw [heq]
  · exact endFail_onFailRunning_link s e x
  · exact startTxn_onFailRunning_link (s.stageWords s.seq.idx.toNat w) _ d
  · exact commitRunning_link (s.stageWords s.seq.idx.toNat w)

/-- A poll takes bytes from RXQ, and does nothing else to the link (R158). -/
theorem pollStep_link (s : State) : s.pollStep.link = s.takeBytes.link := by
  rcases s.pollStep_cases with ⟨-, heq⟩ | ⟨-, -, heq⟩ | ⟨-, -, heq⟩ <;> rw [heq]
  exact endFail_onFailRunning_link s.takeBytes .replyIncomplete 0

/-- Settles O38: a poll and a validation keep TXQ, and the SENDING step fills it with the request or leaves it empty. -/
theorem onlySendingSends : Obligations.OnlySendingSends := by
  intro s t hinv hin hstep
  refine ⟨fun hstate => ?kept, fun hstate => ?sent⟩
  case kept =>
    rw [step_eq_blockNext hin] at hstep
    cases hstep
    rcases hstate with hawaiting | hvalidating
    · rw [blockNext_of_awaiting hawaiting, pollStep_link]
      rfl
    · rw [blockNext_of_validating hvalidating, validateStep_link]
  case sent =>
    rw [hinv.step_of_sending hin hstate] at hstep
    cases hstep
    rcases s.sendStep_cases s.txBytes with ⟨-, -, heq⟩ | ⟨-, heq⟩ <;> rw [heq]
    · exact .inl rfl
    · rw [endFail_onFailRunning_link, endFail_onFailRunning_status]
      exact .inr ⟨rfl, rfl⟩

end Sys2Proof.Machine

/-! PROOF. The commits of the link commands (42_rtu_transaction.md R163, R166, 44_device_ops.md R221 to R226): what the
step that validates the last reply of a command writes. -/

namespace Sys2Proof.Machine

section LastReply
variable {s : State} {w : List Word}

/-- The step that validates a command's last reply stages its words, commits, and ends the command (R159). -/
theorem State.lastReplyGives.step_eq (h : s.lastReplyGives w) :
    step s = .next (s.stageWords s.seq.idx.toNat w).commitRunning.endOk := by
  obtain ⟨hin, hstate, hlast, hvalid⟩ := h
  rw [step_eq_blockNext hin, blockNext_of_validating hstate, validateStep_of_last hlast hvalid]

theorem State.lastReplyGives.step_eq_of_only (h : s.lastReplyGives w) (hidx : s.seq.idx = 0) :
    step s = .next (s.stageWords 0 w).commitRunning.endOk := by
  rw [h.step_eq, hidx]
  rfl

end LastReply

/-- Settles O31: the words go to WBUF for a read, and RESULT is the count for both. -/
theorem engineCommandsCommit : Obligations.EngineCommandsCommit := by
  intro s w hreply hidx
  refine ⟨fun hopc _ => ?read, fun hopc => ?write⟩
  case read =>
    refine ⟨cellsWrite 0 w s.wbuf, cellsHold_cellsWrite w s.wbuf,
      fun a ha => cellGet_cellsWrite_outside w 0 a s.wbuf (by omega), ?_⟩
    rw [hreply.step_eq_of_only hidx, commitRunning_readHolding (s := s.stageWords 0 w) hopc]
    rfl
  case write =>
    rw [hreply.step_eq_of_only hidx, commitRunning_writeMultiple (s := s.stageWords 0 w) hopc]
    rfl

/-- Settles O51: the descriptor's one value is the raw word. -/
theorem deviceWritesCommit : Obligations.DeviceWritesCommit := by
  intro s u addr v hreply hidx hopc htd
  rw [hreply.step_eq_of_only hidx, commitRunning_write (s := s.stageWords 0 []) hopc,
    commitWrite_of_single (s := s.stageWords 0 []) htd rfl]
  rfl

section Voltages
variable {s : State}

theorem commitRunning_readAllVoltages (h : s.cur.opc = 0x40) : s.commitRunning = s.commitAllVoltages := by
  have hrun : s.running = .ok .readAllVoltages := by
    rw [State.running, h]
    rfl
  exact commitRunning_of_running hrun

theorem commitRunning_readSingleVoltage (h : s.cur.opc = 0x41) :
    s.commitRunning = s.commitSingleVoltage s.cur.a := by
  have hrun : s.running = .ok (.readSingleVoltage s.cur.a) := by
    rw [State.running, h]
    rfl
  exact commitRunning_of_running hrun

/-- TIME as the two halves a reading keeps (10_state.md R43, R45). -/
theorem time_low_eq_setWidth (t : BitVec 64) : t.extractLsb' 0 32 = t.setWidth 32 :=
  (BitVec.setWidth_eq_extractLsb' (by decide)).symm

theorem time_high_eq_setWidth (t : BitVec 64) : t.extractLsb' 32 32 = (t >>> 32).setWidth 32 := by
  apply BitVec.eq_of_toNat_eq
  rw [BitVec.extractLsb'_toNat, BitVec.toNat_setWidth, BitVec.toNat_ushiftRight]

theorem reading_eq (s : State) (w : Word) : s.reading w =
    { valid := true, raw := w, uv := voltDecode w, unit := s.unit
      tsLo := s.time.setWidth 32, tsHi := (s.time >>> 32).setWidth 32 } := by
  rw [State.reading, time_low_eq_setWidth, time_high_eq_setWidth]

end Voltages

/-- Settles O49: one reading per channel from the words staged, or one reading at the channel's entry. -/
theorem voltageReadsCommit : Obligations.VoltageReadsCommit := by
  refine ⟨fun s w hreply hidx hopc hlen => ?all, fun s x hreply hidx hopc hmin hmax => ?single⟩
  case all =>
    refine ⟨cellsWrite 0 w s.wbuf, Vector.ofFn fun i : Fin 32 => s.reading (w.getD i 0), fun i hi => ?words,
      fun a ha => cellGet_cellsWrite_outside w 0 a s.wbuf (by omega), fun i hi => ?readings, ?step⟩
    case words => rw [cellsHold_cellsWrite w s.wbuf i (by omega), List.getElem?_eq_getElem]
    case readings => rw [Vector.getElem_ofFn, reading_eq]
    case step =>
      rw [hreply.step_eq_of_only hidx, commitRunning_readAllVoltages (s := s.stageWords 0 w) hopc]
      rfl
  case single =>
    refine ⟨cellSet 0 x s.wbuf, s.vr.setIfInBounds (s.cur.a.toNat - 1) (s.reading x),
      cellGet_cellSet_self 0 x s.wbuf, fun a ha => cellGet_cellSet_other ha x s.wbuf,
      fun i hi hch => ?reading, fun i hi hch => Vector.getElem_setIfInBounds_ne hi (by omega), ?step⟩
    case reading =>
      obtain rfl : s.cur.a.toNat - 1 = i := by omega
      rw [Vector.getElem_setIfInBounds_self, reading_eq]
    case step =>
      rw [hreply.step_eq_of_only hidx, commitRunning_readSingleVoltage (s := s.stageWords 0 [x]) hopc]
      rfl

section Snapshot
variable {s : State}

theorem running_readSnapshot (h : s.cur.opc = 0x42) : s.running = .ok .readSnapshot := by
  rw [State.running, h]
  rfl

theorem maskDecode_toNat (hw lw : Word) : (maskDecode hw lw).toNat = hw.toNat * 65536 + lw.toNat := by
  have hlow : lw.toNat < 2 ^ 16 := lw.isLt
  have hhigh : hw.toNat < 2 ^ 16 := hw.isLt
  rw [maskDecode, BitVec.toNat_or, BitVec.toNat_shiftLeft, BitVec.toNat_setWidth, BitVec.toNat_setWidth,
    Nat.mod_eq_of_lt (by omega : hw.toNat < 2 ^ 32), Nat.mod_eq_of_lt (by omega : lw.toNat < 2 ^ 32),
    Nat.mod_eq_of_lt (by rw [Nat.shiftLeft_eq]; omega), ← Nat.shiftLeft_add_eq_or_of_lt hlow, Nat.shiftLeft_eq]

theorem allFf_iff (ws : List Word) : allFf ws = true ↔ ∀ v ∈ ws, v = 0xFFFF := by
  simp only [allFf, List.all_eq_true, beq_iff_eq]
  rfl

end Snapshot

/-- Settles O50: the fields of the snapshot are read off the words staged, transaction by transaction. -/
theorem readSnapshotCommits : Obligations.ReadSnapshotCommits := by
  intro s a ver bc dir val hi lo st ct fan ac name serial hreply hidx hopc hstage hname hserial
  have hall : s.stage ++ [serial] =
    [[a], [ver], [bc], [dir], [val], [hi, lo], [st], [ct], [fan], [ac], name, serial] := by rw [hstage]; rfl
  have hstaged : s.stageWords 11 serial = { s with stage := s.stage ++ [serial] } := by
    rw [State.stageWords, hstage]
    rfl
  have hstep : step s = .next (s.stageWords 11 serial).commitSnapshot.endOk := by
    rw [hreply.step_eq, hidx, commitRunning_of_running (s := s.stageWords _ serial) (running_readSnapshot hopc)]
    rfl
  rw [hstep, hstaged, hall]
  exact ⟨State.snapshotTaken
    { s with stage := [[a], [ver], [bc], [dir], [val], [hi, lo], [st], [ct], [fan], [ac], name, serial] },
    rfl, rfl, rfl, rfl, rfl, rfl, rfl, rfl, maskDecode_toNat hi lo, rfl, rfl, rfl, rfl, beq_iff_eq,
    textLen_toNat hname (by decide), allFf_iff name, textLen_toNat hserial (by decide), allFf_iff serial,
    time_low_eq_setWidth s.time, time_high_eq_setWidth s.time, ofFn_getD_toList hname, ofFn_getD_toList hserial, rfl⟩

end Sys2Proof.Machine

/-! PROOF. The ways in which READ_SNAPSHOT fails after it has been accepted (42_rtu_transaction.md R152,
44_device_ops.md R224, R235). -/

namespace Sys2Proof.Machine

section Offline
variable {s : State}

/-- `end_fail` of READ_SNAPSHOT, found through CUR (10_state.md R41, 44_device_ops.md R224). -/
theorem endFail_onFailRunning_of_readSnapshot (h : s.cur.opc = 0x42) (e : CmdError) (x : Byte) :
    s.endFail State.onFailRunning e x = s.snapOffline.afterEndFail e x := by
  have hfail : s.onFailRunning = s.snapOffline := by
    rw [State.onFailRunning, running_readSnapshot h]
    rfl
  rw [State.endFail, hfail]
  rfl

/-- The next transaction finds the stream closed: SEQ_IDX names it (R152, R220; log 22). -/
theorem validateStep_of_closed {rx : List Byte} {w : List Word} {d : TxnDesc} (h : s.tr.validate rx = .ok w)
    (hd : s.td[s.seq.idx.toNat + 1]? = some d) (hclosed : s.link.isOpen = false) :
    s.validateStep rx = ((s.stageWords s.seq.idx.toNat w).atTxn (s.seq.idx.toNat + 1)).endFail
      State.onFailRunning .notOpen 0 := by
  simp only [State.validateStep, h, State.stageWords_td, hd]
  exact if_neg (Bool.eq_false_iff.mp hclosed)

/-- A poll that ends the command is the last one, with the reply still incomplete (R156). -/
theorem pollStep_of_done (hdone : s.pollStep.status.done = true) (hopen : s.status.done = false) :
    s.pollStep = s.takeBytes.endFail State.onFailRunning .replyIncomplete 0 := by
  rcases s.pollStep_cases with ⟨-, heq⟩ | ⟨-, -, heq⟩ | ⟨-, -, heq⟩
  · rw [heq] at hdone
    exact nomatch hdone.symm.trans hopen
  · exact heq
  · rw [heq] at hdone
    exact nomatch hdone.symm.trans hopen

end Offline

/-- Settles O52: each failing step ends in the same `end_fail`. -/
theorem failedSnapshotGoesOffline : Obligations.FailedSnapshotGoesOffline := by
  rintro s _ hopc hin rfl
  refine ⟨fun e x hstate hinvalid => ?failed, fun w d hstate hvalid hd hclosed => ?closed,
    fun hinv hstate hrefused => ?refused, fun t hstate hstep hdone hopen => ?timeout⟩
  case failed =>
    have hfail : s.validateStep s.rxBytes = s.endFail State.onFailRunning e x := by
      simp only [State.validateStep, hinvalid]
    rw [step_eq_blockNext hin, blockNext_of_validating hstate, hfail, endFail_onFailRunning_of_readSnapshot hopc]
    rfl
  case closed =>
    rw [step_eq_blockNext hin, blockNext_of_validating hstate, validateStep_of_closed hvalid hd hclosed,
      endFail_onFailRunning_of_readSnapshot
        (s := (s.stageWords s.seq.idx.toNat w).atTxn (s.seq.idx.toNat + 1)) hopc]
    rfl
  case refused =>
    rw [hinv.step_of_sending hin hstate, sendStep_of_refused hrefused,
      endFail_onFailRunning_of_readSnapshot (s := { s with link := { s.link with txq := [], rxq := [] } }) hopc]
    rfl
  case timeout =>
    rw [step_eq_blockNext hin, blockNext_of_awaiting hstate] at hstep
    cases hstep
    rw [pollStep_of_done hdone hopen, endFail_onFailRunning_of_readSnapshot (s := s.takeBytes) hopc]
    exact ⟨rfl, rfl⟩

end Sys2Proof.Machine

/-! PROOF. A stream that closes while the block polls (42_rtu_transaction.md R168; log 26): what each agent's turn does
to the reply the block polls for. -/

namespace Sys2Proof.Machine

/-- A turn that is no poll: STATUS, TR and the bytes collected stay, and a cut link stays cut and brings none. -/
structure KeepsPolling (s t : State) : Prop where
  status : t.status = s.status
  tr : t.tr = s.tr
  rxbuf : t.rxbuf = s.rxbuf
  rxCount : t.rxCount = s.rxCount
  cut : s.link.cut = true → t.link.cut = true ∧ t.link.rxq = s.link.rxq

section Polling
variable {s t u : State}

theorem KeepsPolling.trans (h : KeepsPolling s t) (h' : KeepsPolling t u) : KeepsPolling s u where
  status := h'.status.trans h.status
  tr := h'.tr.trans h.tr
  rxbuf := h'.rxbuf.trans h.rxbuf
  rxCount := h'.rxCount.trans h.rxCount
  cut hcut := by
    obtain ⟨htcut, htrxq⟩ := h.cut hcut
    obtain ⟨hucut, hurxq⟩ := h'.cut htcut
    exact ⟨hucut, hurxq.trans htrxq⟩

/-- The block's own fields stay: what a host access and a turn that leaves the link alone have in common. -/
theorem keepsPolling_of_link (hstatus : t.status = s.status) (htr : t.tr = s.tr) (hrxbuf : t.rxbuf = s.rxbuf)
    (hcount : t.rxCount = s.rxCount) (hlink : t.link = s.link) : KeepsPolling s t :=
  ⟨hstatus, htr, hrxbuf, hcount, fun hcut => by rw [hlink]; exact ⟨hcut, rfl⟩⟩

theorem keepsPolling_nextTurn (s : State) (rest : List Input) : KeepsPolling s (s.nextTurn rest) :=
  keepsPolling_of_link rfl rfl rfl rfl rfl

theorem keepsPolling_badAccess (s : State) : KeepsPolling s s.badAccess := keepsPolling_of_link rfl rfl rfl rfl rfl

theorem keepsPolling_writable (hbusy : s.status.busy = true) (t : State) : KeepsPolling s (s.writable t) := by
  rw [writable_of_busy hbusy]
  exact keepsPolling_of_link rfl rfl rfl rfl rfl

theorem keepsPolling_hostWrite (hbusy : s.status.busy = true) (c : HostCell) (v : Reg) :
    KeepsPolling s (s.hostWrite c v) := by
  cases c with
  | cmd => exact keepsPolling_of_link rfl rfl rfl rfl rfl
  | arg | sessionUnit | cfgIfdMs | cfgPollRetries | cfgPollIntervalMs | cfgTimeoutMs | buf | wbuf =>
    exact keepsPolling_writable hbusy _
  | bufLen =>
    dsimp only [State.hostWrite]
    split
    · exact (keepsPolling_badAccess s).trans (keepsPolling_writable (s := s.badAccess) hbusy _)
    · exact keepsPolling_writable hbusy _
  | status | result | fault | link | txLen | rxCount | seq | txbuf | rxbuf | vr | snap | unmapped =>
    exact keepsPolling_badAccess s

theorem keepsPolling_hostRead (s : State) (index : BitVec 12) : KeepsPolling s (s.hostRead index) := by
  dsimp only [State.hostRead]
  split <;> exact keepsPolling_of_link rfl rfl rfl rfl rfl

theorem keepsPolling_receive (hstate : s.status.state = .awaiting) (bytes : List Byte) :
    KeepsPolling s (s.receive bytes) := by
  refine ⟨rfl, rfl, rfl, rfl, fun hcut => ?_⟩
  rw [State.receive_of_isCut bytes (State.isCut_eq_true_iff.mpr ⟨hstate, hcut⟩)]
  exact ⟨hcut, rfl⟩

theorem keepsPolling_changeOpen (s : State) (o : Bool) : KeepsPolling s (s.changeOpen o) := by
  refine ⟨rfl, rfl, rfl, rfl, fun hcut => ?_⟩
  rcases s.changeOpen_cases o with ⟨-, -, heq⟩ | ⟨-, heq⟩ <;> rw [heq]
  · exact ⟨rfl, rfl⟩
  · exact ⟨hcut, rfl⟩

/-- In AWAITING every turn is a poll, a reset, or one that keeps the polling as it is. -/
theorem takeInput_awaiting_cases (hbusy : s.status.busy = true) (hstate : s.status.state = .awaiting) {i : Input}
    (h : takeInput s i = .next t) :
    (i = .block ∧ t = s.pollStep) ∨ (i = .reset ∧ t = s.takeReset) ∨ KeepsPolling s t := by
  cases i with
  | block =>
    rw [takeInput_block, blockNext_of_awaiting hstate] at h
    cases h
    exact .inl ⟨rfl, rfl⟩
  | reset => cases h; exact .inr (.inl ⟨rfl, rfl⟩)
  | hostWrite index v =>
    refine .inr (.inr ?_)
    dsimp only [takeInput] at h
    split at h
    · rw [issue_of_busy hbusy] at h
      cases h
      exact keepsPolling_of_link rfl rfl rfl rfl rfl
    · cases h; exact keepsPolling_hostWrite hbusy _ v
  | hostRead index => cases h; exact .inr (.inr (keepsPolling_hostRead s index))
  | linkReceive bytes => cases h; exact .inr (.inr (keepsPolling_receive hstate bytes))
  | linkOpen o => cases h; exact .inr (.inr (keepsPolling_changeOpen s o))
  | linkDrain n => cases h; exact .inr (.inr ⟨rfl, rfl, rfl, rfl, fun hcut => ⟨hcut, rfl⟩⟩)
  | linkRefuse r => cases h; exact .inr (.inr ⟨rfl, rfl, rfl, rfl, fun hcut => ⟨hcut, rfl⟩⟩)
  | setTime v => cases h; exact .inr (.inr (keepsPolling_of_link rfl rfl rfl rfl rfl))

/-- The same of a step: it is a poll at a state with the same reply, a reset, or keeps the polling as it is. -/
theorem step_awaiting_cases (hinv : Inv s) (hstate : s.status.state = .awaiting) (hstep : step s = .next t) :
    (∃ s', Inv s' ∧ KeepsPolling s s' ∧ t = s'.pollStep) ∨
      (s.inputs.head? = some .reset ∧ t.status.state = .idle) ∨ KeepsPolling s t := by
  have hbusy := hinv.busy_of_state hstate nofun
  cases hin : s.inputs with
  | nil =>
    rw [step_eq_blockNext hin, blockNext_of_awaiting hstate] at hstep
    cases hstep
    exact .inl ⟨s, hinv, keepsPolling_of_link rfl rfl rfl rfl rfl, rfl⟩
  | cons i rest =>
    rw [step_of_inputs_cons hin] at hstep
    rcases takeInput_awaiting_cases (s := s.nextTurn rest) hbusy hstate hstep with ⟨-, rfl⟩ | ⟨rfl, rfl⟩ | hkept
    · exact .inl ⟨s.nextTurn rest, hinv.nextTurn rest, keepsPolling_nextTurn s rest, rfl⟩
    · exact .inr (.inl ⟨rfl, rfl⟩)
    · exact .inr (.inr ((keepsPolling_nextTurn s rest).trans hkept))

/-- The bytes collected have been written, so that a turn that keeps them keeps what is read. -/
theorem KeepsPolling.rxBytes_eq (h : KeepsPolling s t) (hwritten : cellsWritten (w := 8) s.rxbuf s.rxCount.toNat) :
    t.rxBytes = s.rxBytes := by
  have hread := cellsRead_eq_of_hold s.rxbuf (fun i => t.free 8 (rxbufBase + i)) s.rxBytes (rxBytes_hold hwritten)
  rwa [rxBytes_length, ← h.rxCount, ← h.rxbuf] at hread

theorem KeepsPolling.starved (h : KeepsPolling s t) (hwritten : cellsWritten (w := 8) s.rxbuf s.rxCount.toNat)
    (hs : s.starved) : t.starved := by
  obtain ⟨hcut, hrxq⟩ := h.cut hs.cut
  refine ⟨by rw [h.status]; exact hs.awaiting, hcut, fun taken rest hsplit => ?_⟩
  rw [h.rxBytes_eq hwritten, h.tr]
  exact hs.short taken rest (hrxq.symm.trans hsplit)

/-- A poll takes bytes from the front of RXQ. -/
theorem pollStep_rxq (s : State) : ∃ taken, s.link.rxq = taken ++ s.pollStep.link.rxq := by
  obtain ⟨taken, -, hrxq⟩ := collect_split s.tr.need s.rxBytes s.link.rxq
  rw [pollStep_link]
  exact ⟨taken, hrxq⟩

/-- A poll of a reply that cannot be completed leaves it so, or is the last one and ends the command (R156, R168). -/
theorem Running.pollStep_starved (h : Running s) (hs : s.starved) :
    s.pollStep.starved ∨ s.pollStep = s.takeBytes.endFail State.onFailRunning .replyIncomplete 0 := by
  obtain ⟨taken, rest, hrxq, -, -, hcollected, htake⟩ := h.exists_taken
  have hincomplete : s.takeBytes.rxCount.toNat ≠ s.tr.need s.takeBytes.rxBytes := by
    rw [h.takeBytes_rxCount, h.takeBytes_rxBytes, hcollected]
    exact (hs.short taken rest hrxq).ne
  rcases s.pollStep_cases with ⟨hcomplete, -⟩ | ⟨-, -, heq⟩ | ⟨-, -, heq⟩
  · exact absurd hcomplete hincomplete
  · exact .inr heq
  · refine .inl ?_
    rw [heq]
    refine ⟨hs.awaiting, hs.cut, fun taken' rest' hsplit => ?_⟩
    have hrest : rest = taken' ++ rest' := by
      rw [← hsplit, htake]
      rfl
    have hshort := hs.short (taken ++ taken') rest' (by rw [hrxq, hrest, List.append_assoc])
    rw [← List.append_assoc, ← hcollected, ← h.takeBytes_rxBytes] at hshort
    exact hshort

end Polling

/-- Settles O35: each clause holds of a poll, of a reset, and of every turn that keeps the polling as it is. -/
theorem streamClosedWhileAwaiting : Obligations.StreamClosedWhileAwaiting := by
  intro s t hinv hstate hstep
  refine ⟨fun rest hin => ?closing, fun hcut hawaiting => ?cut, fun hstarved hreset => ?starved⟩
  case closing => exact Host.Outcome.next.inj (hstep.symm.trans (step_linkOpen_of_closing hin hstate))
  case cut =>
    rcases step_awaiting_cases hinv hstate hstep with ⟨s', -, hkept, rfl⟩ | ⟨-, hidle⟩ | hkept
    · obtain ⟨hcut', hrxq⟩ := hkept.cut hcut
      rw [← hrxq]
      refine ⟨?_, pollStep_rxq s'⟩
      rw [pollStep_link]
      exact hcut'
    · exact nomatch hidle.symm.trans hawaiting
    · obtain ⟨hcut', hrxq⟩ := hkept.cut hcut
      exact ⟨hcut', [], hrxq.symm⟩
  case starved =>
    have hwritten := (hinv.running (hinv.busy_of_state hstate nofun)).reply.1
    rcases step_awaiting_cases hinv hstate hstep with ⟨s', hinv', hkept, rfl⟩ | ⟨hin, -⟩ | hkept
    · have hstarved' := hkept.starved hwritten hstarved
      have hrun' := hinv'.running (hinv'.busy_of_state hstarved'.awaiting nofun)
      refine (hrun'.pollStep_starved hstarved').imp_right fun heq => ?_
      rw [heq, endFail_onFailRunning_status]
      exact ⟨rfl, rfl, rfl, rfl, rfl⟩
    · exact absurd hin hreset
    · exact .inl (hkept.starved hwritten hstarved)

end Sys2Proof.Machine

/-! PROOF. The results of commands while a command runs (42_rtu_transaction.md R167): every command and every block step
that writes one of them leaves BUSY = 0. -/

namespace Sys2Proof.Machine

/-- What commands leave for the host: RESULT, the host's buffers and the two banks. -/
structure Results where
  result : Reg
  resultWritten : Bool
  wbuf : Store 16
  buf : Memory
  bufLen : BitVec 9
  vr : Vector VrEntry 32
  snap : Snapshot

def State.results (s : State) : Results :=
  { result := s.result, resultWritten := s.resultWritten, wbuf := s.wbuf, buf := s.buf, bufLen := s.bufLen
    vr := s.vr, snap := s.snap }

/-- `t` has the results of `s`, or no command runs in `t`. -/
def KeepsResults (s t : State) : Prop := t.status.busy = true → t.results = s.results

section Kept
variable {s t : State}

theorem keepsResults_of_eq (h : t.results = s.results) : KeepsResults s t := fun _ => h

theorem keepsResults_of_idle (h : t.status.busy = false) : KeepsResults s t := fun hbusy =>
  absurd (h.symm.trans hbusy) Bool.false_ne_true

theorem keepsResults_raise (s : State) (e : CmdError) : KeepsResults s (s.raise e) := keepsResults_of_eq rfl

theorem keepsResults_endFail (s u : State) (f : State → State) (e : CmdError) (x : Byte) :
    KeepsResults s (u.endFail f e x) := keepsResults_of_idle rfl

theorem keepsResults_startTxn (s : State) (f : State → State) (k : Nat) (d : TxnDesc) :
    KeepsResults s (s.startTxn f k d) := by
  rcases s.startTxn_cases f k d with ⟨-, heq⟩ | ⟨-, heq⟩ <;> rw [heq]
  · exact keepsResults_of_eq rfl
  · exact keepsResults_endFail s _ f _ _

theorem keepsResults_begin (s : State) (f : State → State) (tds : List TxnDesc) : KeepsResults s (s.begin f tds) := by
  cases tds with
  | nil => exact keepsResults_of_eq rfl
  | cons d tds => exact keepsResults_startTxn _ f 0 d

theorem keepsResults_devAccept (s : State) (f : State → State) (check : Except CmdError Unit)
    (tds : Byte → List TxnDesc) : KeepsResults s (s.devAccept f check tds) := by
  rcases s.devAccept_cases f check tds with ⟨e, -, heq⟩ | ⟨-, -, heq⟩ | ⟨-, -, heq⟩ <;> rw [heq]
  · exact keepsResults_raise s e
  · exact keepsResults_raise s _
  · exact keepsResults_begin { s with unit := s.session.unit } f _

theorem keepsResults_writeAccept (s : State) (checked : Except CmdError Word) (addr : Word) :
    KeepsResults s (s.writeAccept checked addr) := by
  rcases s.writeAccept_cases checked addr with ⟨e, -, heq⟩ | ⟨v, -, -, heq⟩ | ⟨v, -, -, heq⟩ <;> rw [heq]
  · exact keepsResults_raise s e
  · exact keepsResults_raise s _
  · exact keepsResults_begin { s with unit := s.session.unit } _ _

theorem completeWord_busy (s : State) (r : Except CmdError Word) :
    (s.completeWord r).status.busy = s.status.busy := by
  cases r <;> rfl

/-- Running an accepted command: a pure command leaves BUSY = 0 as it was, a link command writes no results. -/
theorem exec_keepsResults {i : Instr} (hidle : s.status.busy = false) (hcmd : ∀ bytes, encode i ≠ .frame bytes)
    (h : exec i s = .next t) : KeepsResults s t := by
  have hpure (hbusy : t.status.busy = s.status.busy) : KeepsResults s t := keepsResults_of_idle (hbusy.trans hidle)
  cases i with
  | voltDecode | thrDecode | baudDecode | maskDecode => cases h; exact hpure rfl
  | voltEncode | thrEncode | baudEncode => cases h; exact hpure (completeWord_busy s _)
  | crcCalc | crcVerify | textDecode | frameReadReq | frameWriteReq | regLookup =>
    refine hpure ?_
    cases h
    split <;> rfl
  | crcAppend =>
    refine hpure ?_
    cases h
    split
    · rfl
    · split <;> rfl
  | frameReadRsp =>
    refine hpure ?_
    cases h
    split
    · dsimp only
      split
      · rfl
      · split <;> rfl
    · rfl
  | frameWriteRsp =>
    refine hpure ?_
    cases h
    dsimp only
    split
    · rfl
    · split <;> rfl
  | readHolding | writeMultiple =>
    cases h
    split
    · exact keepsResults_begin s _ _
    · exact keepsResults_raise s _
  | readAllVoltages | readSingleVoltage | readSnapshot => cases h; exact keepsResults_devAccept s _ _ _
  | writeDeviceAddress | writeBaudRate | writeIoDirection | writeIoValue | writeSetTemperature
  | writeDropThreshold => cases h; exact keepsResults_writeAccept s _ _
  | rtuReadHoldingRegisters | rtuReadException | rtuWriteMultipleRegisters | rtuWriteException =>
    exact absurd rfl (hcmd _)

theorem issue_keepsResults {c : Reg} (h : issue s c = .next t) : KeepsResults s t := by
  rcases issue_cases s c with ⟨-, heq⟩ | ⟨i, hidle, hdecode, heq⟩ | ⟨e, -, -, heq⟩ <;> rw [heq] at h
  · cases h; exact keepsResults_of_eq rfl
  · exact exec_keepsResults (s := s.accept c) hidle (encode_ne_frame_of_decodeFields hdecode) h
  · cases h; exact keepsResults_of_eq rfl

theorem sendStep_keepsResults (s : State) (frame : List Byte) : KeepsResults s (s.sendStep frame) := by
  rcases s.sendStep_cases frame with ⟨-, -, heq⟩ | ⟨-, heq⟩ <;> rw [heq]
  · exact keepsResults_of_eq rfl
  · exact keepsResults_endFail s _ _ _ _

theorem pollStep_keepsResults (s : State) : KeepsResults s s.pollStep := by
  rcases s.pollStep_cases with ⟨-, heq⟩ | ⟨-, -, heq⟩ | ⟨-, -, heq⟩ <;> rw [heq]
  · exact keepsResults_of_eq rfl
  · exact keepsResults_endFail s _ _ _ _
  · exact keepsResults_of_eq rfl

/-- A commit is followed by `end_ok` in its own step (R159, R160). -/
theorem validateStep_keepsResults (s : State) (rx : List Byte) : KeepsResults s (s.validateStep rx) := by
  rcases s.validateStep_cases rx with ⟨e, x, -, heq⟩ | ⟨w, d, -, -, heq⟩ | ⟨w, -, -, heq⟩ <;> rw [heq]
  · exact keepsResults_endFail s _ _ _ _
  · exact keepsResults_startTxn (s.stageWords s.seq.idx.toNat w) _ _ d
  · exact keepsResults_of_idle rfl

theorem blockNext_keepsResults (s : State) : KeepsResults s s.blockNext := by
  unfold State.blockNext
  cases s.status.state with
  | idle => exact keepsResults_of_eq rfl
  | sending =>
    dsimp only
    split
    · exact keepsResults_of_eq rfl
    · exact sendStep_keepsResults s _
  | awaiting => exact pollStep_keepsResults s
  | validating => exact validateStep_keepsResults s _

/-- A host write that is done, not refused, finds BUSY = 0 and leaves it so (60_exceptions.md R261). -/
theorem keepsResults_writable (hstatus : t.status = s.status) : KeepsResults s (s.writable t) := by
  rcases s.writable_cases t with ⟨-, heq⟩ | ⟨hidle, heq⟩ <;> rw [heq]
  · exact keepsResults_of_eq rfl
  · exact keepsResults_of_idle (hstatus ▸ hidle)

theorem hostWrite_keepsResults (s : State) (c : HostCell) (v : Reg) : KeepsResults s (s.hostWrite c v) := by
  cases c with
  | arg | sessionUnit | cfgIfdMs | cfgPollRetries | cfgPollIntervalMs | cfgTimeoutMs | buf | wbuf =>
    exact keepsResults_writable rfl
  | bufLen =>
    dsimp only [State.hostWrite]
    split
    · exact keepsResults_writable (s := s.badAccess) rfl
    · exact keepsResults_writable rfl
  | cmd | status | result | fault | link | txLen | rxCount | seq | txbuf | rxbuf | vr | snap | unmapped =>
    exact keepsResults_of_eq rfl

theorem takeInput_keepsResults {i : Input} (h : takeInput s i = .next t) : KeepsResults s t := by
  cases i with
  | hostWrite index v =>
    dsimp only [takeInput] at h
    split at h
    · exact issue_keepsResults h
    · cases h; exact hostWrite_keepsResults s _ v
  | hostRead index =>
    cases h
    dsimp only [State.hostRead]
    split <;> exact keepsResults_of_eq rfl
  | block =>
    rw [takeInput_block] at h
    cases h
    exact blockNext_keepsResults s
  | reset => cases h; exact keepsResults_of_idle rfl
  | linkReceive | linkDrain | linkOpen | linkRefuse | setTime => cases h; exact keepsResults_of_eq rfl

end Kept

/-- Settles O36, one turn at a time. -/
theorem resultsKeptWhileRunning : Obligations.ResultsKeptWhileRunning := by
  intro s t hstep hbusy
  have hkept : t.results = s.results := by
    cases hin : s.inputs with
    | nil =>
      rw [step_of_inputs_nil s hin] at hstep
      exact takeInput_keepsResults hstep hbusy
    | cons i rest =>
      rw [step_of_inputs_cons hin] at hstep
      exact takeInput_keepsResults (s := s.nextTurn rest) hstep hbusy
  simpa only [State.results, Results.mk.injEq] using hkept

end Sys2Proof.Machine

/-! PROOF. The voltage and threshold codecs (43_codecs.md R180 to R188): each branch as a closed form on numbers, the
commands that run it, and the round trip. -/

namespace Sys2Proof.Machine

section Commands
variable (s : State)

theorem exec_voltDecode (raw : Word) : exec (.voltDecode raw) s = .next (s.complete (voltDecode raw)) := rfl

theorem exec_voltEncode (x : Reg) : exec (.voltEncode x) s = .next (s.completeWord (voltEncode x)) := rfl

theorem exec_thrDecode (raw : Word) : exec (.thrDecode raw) s = .next (s.complete (thrDecode raw)) := rfl

theorem exec_thrEncode (x : Reg) : exec (.thrEncode x) s = .next (s.completeWord (thrEncode x)) := rfl

/-- A codec that gives a raw word puts it, zero-extended, in RESULT. -/
theorem completeWord_ofNat {n : Nat} (h : n < 2 ^ 16) :
    s.completeWord (.ok (BitVec.ofNat 16 n)) = s.afterSuccess (BitVec.ofNat 32 n) := by
  rw [State.completeWord, BitVec.setWidth_ofNat_of_le_of_lt (by decide) h, complete_eq_afterSuccess]

theorem completeWord_error (e : CmdError) : s.completeWord (.error e) = s.afterError e := rfl

end Commands

/-! ### Rounding and decoding -/

/-- For an even divisor the rounding of R180 adds half of it and divides. -/
theorem rnd_two_mul (x h : Nat) : rnd x (2 * h) = (x + h) / (2 * h) := by
  rw [rnd, ← Nat.mul_add, Nat.mul_div_mul_left _ _ two_pos]

theorem rnd_1000 (x : Nat) : rnd x 1000 = (x + 500) / 1000 := rnd_two_mul x 500

theorem rnd_10000 (x : Nat) : rnd x 10000 = (x + 5000) / 10000 := rnd_two_mul x 5000

section Decode
variable {raw : Word}

theorem voltDecode_of_gt (h : 0x8000 < raw.toNat) :
    voltDecode raw = BitVec.ofNat 32 ((raw.toNat - 0x8000) * 10000) := if_pos h

theorem voltDecode_of_le (h : raw.toNat ≤ 0x8000) : voltDecode raw = BitVec.ofNat 32 (raw.toNat * 1000) :=
  if_neg (Nat.not_lt.mpr h)

theorem voltDecode_toNat_of_gt (h : 0x8000 < raw.toNat) :
    (voltDecode raw).toNat = (raw.toNat - 0x8000) * 10000 := by
  have hlt := raw.isLt
  rw [voltDecode_of_gt h, toNat_ofNat_of_le (m := 327670000) (by omega)]

theorem voltDecode_toNat_of_le (h : raw.toNat ≤ 0x8000) : (voltDecode raw).toNat = raw.toNat * 1000 := by
  rw [voltDecode_of_le h, toNat_ofNat_of_le (m := 327670000) (by omega)]

end Decode

/-- Settles O40: the branch of R182 that the comparison with 0x8000 takes. -/
theorem voltageDecodersResult : Obligations.VoltageDecodersResult := by
  refine ⟨fun _ _ => decode_command_of_opc, fun _ _ => decode_command_of_opc,
    fun raw s => ⟨fun hgt => ?upper, fun hle => ?lower, ?threshold⟩⟩
  case upper => rw [exec_voltDecode, voltDecode_of_gt hgt, complete_eq_afterSuccess]
  case lower => rw [exec_voltDecode, voltDecode_of_le hle, complete_eq_afterSuccess]
  case threshold => rw [exec_thrDecode, thrDecode, complete_eq_afterSuccess]

/-! ### Encoding -/

section Encode
variable {x : Reg}

theorem voltEncode_of_le (h : x.toNat ≤ 32768000) :
    voltEncode x = .ok (BitVec.ofNat 16 ((x.toNat + 500) / 1000)) := by
  rw [voltEncode, if_neg (by omega), rnd_1000]

theorem voltEncode_of_gt (h : 32768000 < x.toNat) (hmax : x.toNat < 327675000) :
    voltEncode x = .ok (BitVec.ofNat 16 ((x.toNat + 5000) / 10000 + 0x8000)) := by
  rw [voltEncode, if_pos h, rnd_10000, if_neg (by omega)]

theorem voltEncode_of_ge (h : 327675000 ≤ x.toNat) : voltEncode x = .error .value := by
  rw [voltEncode, if_pos (by omega), rnd_10000, if_pos (by omega)]

theorem thrEncode_of_lt (h : x.toNat < 655355000) :
    thrEncode x = .ok (BitVec.ofNat 16 ((x.toNat + 5000) / 10000)) := by
  rw [thrEncode, rnd_10000, if_neg (by omega)]

theorem thrEncode_of_ge (h : 655355000 ≤ x.toNat) : thrEncode x = .error .value := by
  rw [thrEncode, rnd_10000, if_pos (by omega)]

/-- Every raw word VOLT_ENCODE gives comes from one of the two branches of R184. -/
theorem voltEncode_ok_cases {r : Word} (h : voltEncode x = .ok r) :
    (x.toNat ≤ 32768000 ∧ r.toNat = (x.toNat + 500) / 1000) ∨
    (32768000 < x.toNat ∧ x.toNat < 327675000 ∧ r.toNat = (x.toNat + 5000) / 10000 + 0x8000) := by
  rcases Nat.lt_or_ge 32768000 x.toNat with hgt | hle
  · rcases Nat.lt_or_ge x.toNat 327675000 with hlt | hge
    · obtain rfl := Except.ok.inj ((voltEncode_of_gt hgt hlt).symm.trans h)
      exact .inr ⟨hgt, hlt, toNat_ofNat_of_le (m := 0xFFFF) (by omega)⟩
    · exact absurd ((voltEncode_of_ge hge).symm.trans h) nofun
  · obtain rfl := Except.ok.inj ((voltEncode_of_le hle).symm.trans h)
    exact .inl ⟨hle, toNat_ofNat_of_le (m := 0xFFFF) (by omega)⟩

end Encode

/-- Settles O41: the branch of R184 or R188 that the value takes; each raw word fits 16 bits. -/
theorem voltageEncodersResult : Obligations.VoltageEncodersResult := by
  refine ⟨fun _ _ => decode_command_of_opc, fun _ _ => decode_command_of_opc,
    fun x s => ⟨fun hle => ?lower, fun hgt hmax => ?upper, fun hge => ?range,
      fun hlt => ?threshold, fun hge => ?thresholdRange⟩⟩
  case lower => rw [exec_voltEncode, voltEncode_of_le hle, completeWord_ofNat s (by omega)]
  case upper => rw [exec_voltEncode, voltEncode_of_gt hgt hmax, completeWord_ofNat s (by omega)]
  case range => rw [exec_voltEncode, voltEncode_of_ge hge, completeWord_error]
  case threshold => rw [exec_thrEncode, thrEncode_of_lt hlt, completeWord_ofNat s (by omega)]
  case thresholdRange => rw [exec_thrEncode, thrEncode_of_ge hge, completeWord_error]

/-! ### The round trip (R186) -/

section RoundTrip
variable {raw : Word}

theorem voltEncode_voltDecode_of_le (h : raw.toNat ≤ 0x8000) : voltEncode (voltDecode raw) = .ok raw := by
  have hx := voltDecode_toNat_of_le h
  have hraw : (raw.toNat * 1000 + 500) / 1000 = raw.toNat := by omega
  rw [voltEncode_of_le (by omega), hx, hraw, BitVec.ofNat_toNat, BitVec.setWidth_eq]

theorem voltEncode_voltDecode_of_ge (h : 0x8CCD ≤ raw.toNat) : voltEncode (voltDecode raw) = .ok raw := by
  have hlt := raw.isLt
  have hx := voltDecode_toNat_of_gt (raw := raw) (by omega)
  have hraw : ((raw.toNat - 0x8000) * 10000 + 5000) / 10000 + 0x8000 = raw.toNat := by omega
  rw [voltEncode_of_gt (by omega) (by omega), hx, hraw, BitVec.ofNat_toNat, BitVec.setWidth_eq]

/-- In the lower part of the 10 mV range the voltage is encoded in 1 mV steps. -/
theorem voltEncode_voltDecode_of_middle (hmin : 0x8001 ≤ raw.toNat) (hmax : raw.toNat ≤ 0x8CCC) :
    voltEncode (voltDecode raw) = .ok (BitVec.ofNat 16 ((raw.toNat - 0x8000) * 10)) := by
  have hx := voltDecode_toNat_of_gt hmin
  have hraw : ((raw.toNat - 0x8000) * 10000 + 500) / 1000 = (raw.toNat - 0x8000) * 10 := by omega
  rw [voltEncode_of_le (by omega), hx, hraw]

end RoundTrip

/-- Settles O45: the three ranges of the raw word, then the branch that gave the word decoded again. -/
theorem voltageRoundTripLaw : Obligations.VoltageRoundTripLaw := by
  refine ⟨fun raw hexact => hexact.elim voltEncode_voltDecode_of_le voltEncode_voltDecode_of_ge,
    fun raw hmin hmax => ⟨_, voltEncode_voltDecode_of_middle hmin hmax, toNat_ofNat_of_le (m := 0xFFFF) (by omega)⟩,
    fun x r henc => ?error⟩
  rcases voltEncode_ok_cases henc with ⟨hle, hr⟩ | ⟨hgt, hlt, hr⟩
  · have hdec := voltDecode_toNat_of_le (raw := r) (by omega)
    omega
  · have hdec := voltDecode_toNat_of_gt (raw := r) (by omega)
    omega

end Sys2Proof.Machine

/-! PROOF. The baud rate, mask and text codecs (43_codecs.md R190 to R196). -/

namespace Sys2Proof.Machine

/-! ### Baud rates -/

section Baud
variable (s : State)

theorem exec_baudDecode (code : Word) : exec (.baudDecode code) s = .next (s.complete (baudDecode code)) := rfl

theorem exec_baudEncode (rate : Reg) : exec (.baudEncode rate) s = .next (s.completeWord (baudEncode rate)) := rfl

theorem baudDecode_of_ge {code : Word} (h : 3 ≤ code.toNat) : baudDecode code = 57600 := by
  unfold baudDecode
  split
  case h_4 => rfl
  all_goals omega

theorem baudEncode_of_not_mem {rate : Reg} (h : rate ∉ [9600, 19200, 38400, 57600]) :
    baudEncode rate = .error .baudUnsupported := by
  simp only [List.mem_cons, List.not_mem_nil, or_false, not_or, ← BitVec.toNat_inj] at h
  obtain ⟨h9600, h19200, h38400, h57600⟩ := h
  unfold baudEncode
  split
  case h_1 hrate => exact absurd hrate h9600
  case h_2 hrate => exact absurd hrate h19200
  case h_3 hrate => exact absurd hrate h38400
  case h_4 hrate => exact absurd hrate h57600
  case h_5 => rfl

end Baud

/-- Settles O42: each listed code and rate by evaluation, any other one by the last case of R190 and of R191. -/
theorem baudCodecResult : Obligations.BaudCodecResult := by
  refine ⟨fun _ _ => decode_command_of_opc, fun _ _ => decode_command_of_opc,
    fun code rate s => ⟨?_, ?_, ?_, fun hge => ?fallback, ?_, ?_, ?_, ?_, fun hout => ?unsupported⟩⟩
  case fallback => rw [exec_baudDecode, baudDecode_of_ge hge, complete_eq_afterSuccess]
  case unsupported => rw [exec_baudEncode, baudEncode_of_not_mem hout, completeWord_error]
  all_goals
    rintro rfl
    rfl

/-! ### The mask -/

theorem exec_maskDecode (hw lw : Word) (s : State) :
    exec (.maskDecode hw lw) s = .next (s.complete (maskDecode hw lw)) := rfl

/-- Below bit 16 the mask is the low word, from bit 16 on the high word (R193). -/
theorem maskDecode_getLsbD (hw lw : Word) {i : Nat} (hi : i < 32) :
    (maskDecode hw lw).getLsbD i = if i < 16 then lw.getLsbD i else hw.getLsbD (i - 16) := by
  rw [maskDecode, BitVec.getLsbD_or, BitVec.getLsbD_shiftLeft, BitVec.getLsbD_setWidth, BitVec.getLsbD_setWidth]
  split
  · next hlow => simp [hlow, hi]
  · next hhigh => simp [hhigh, hi, show i - 16 < 32 by omega, BitVec.getLsbD_of_ge lw i (by omega)]

/-- Settles O43: the mask as a number, and the word that holds a channel's bit (R194). -/
theorem maskDecodeResult : Obligations.MaskDecodeResult := by
  refine ⟨fun _ _ => decode_command_of_opc, fun hw lw s =>
    ⟨maskDecode hw lw, exec_maskDecode hw lw s, maskDecode_toNat hw lw,
      fun ch hmin hmax => ?low, fun ch hmin hmax => ?high⟩⟩
  case low => rw [dropped, maskDecode_getLsbD hw lw (by omega), if_pos (by omega)]
  case high => rw [dropped, maskDecode_getLsbD hw lw (by omega), if_neg (by omega), Nat.sub_sub]

/-! ### Texts -/

/-- Where a text ends: the index of its first word that is 0x0000, or the number of its words (R195). -/
def textEnd (ws : List Word) : Nat := ws.findIdx (· = 0)

theorem textLen_eq (ws : List Word) : textLen ws = 2 * textEnd ws := by
  induction ws with
  | nil => rfl
  | cons w ws ih =>
    rw [textLen, textEnd, List.findIdx_cons]
    by_cases hw : w = 0
    · simp [hw]
    · simp only [hw, if_false, ih, textEnd, decide_false, cond_false]
      omega

theorem textEnd_le (ws : List Word) : textEnd ws ≤ ws.length := List.findIdx_le_length

theorem getElem?_ne_zero_of_lt_textEnd {ws : List Word} {i : Nat} (h : i < textEnd ws) : ws[i]? ≠ some 0 := by
  have hword := List.not_of_lt_findIdx h
  have hlen := h.trans_le (textEnd_le ws)
  rw [List.getElem?_eq_getElem hlen]
  simpa using hword

theorem getElem?_textEnd {ws : List Word} (h : textEnd ws < ws.length) : ws[textEnd ws]? = some 0 := by
  have hword : decide (ws[textEnd ws] = 0) = true := List.findIdx_getElem (w := h)
  rw [List.getElem?_eq_getElem h, of_decide_eq_true hword]

/-- The bytes of a text are those of its words before the end, each high byte first (R195). -/
theorem textBytes_getElem? {ws : List Word} {i : Nat} (h : i < textEnd ws) :
    (textBytes ws)[2 * i]? = some ((ws.getD i 0 >>> 8).setWidth 8) ∧
    (textBytes ws)[2 * i + 1]? = some ((ws.getD i 0).setWidth 8) := by
  have hlen := h.trans_le (textEnd_le ws)
  obtain ⟨hhi, hlo⟩ := wordBytes_getD ws i hlen
  rw [← hi_eq_setWidth, ← lo_eq_setWidth, ← hhi, ← hlo, textBytes, textLen_eq,
    List.getElem?_take_of_lt (by omega), List.getElem?_take_of_lt (by omega)]
  have hbytes : 2 * i + 1 < (wordBytes ws).length := by rw [wordBytes_length]; omega
  rw [List.getD_eq_getElem _ _ hbytes, List.getD_eq_getElem _ _ (Nat.lt_of_succ_lt hbytes)]
  exact ⟨List.getElem?_eq_getElem _, List.getElem?_eq_getElem _⟩

section TextCommand
variable {n : Byte}

theorem exec_textDecode_of_le (h : n.toNat ≤ 128) (s : State) :
    exec (.textDecode n) s = .next ({ s with
      buf := cellsWrite (w := 8) 0 (textBytes (s.wbufWords n.toNat)) s.buf
      bufLen := BitVec.ofNat 9 (textLen (s.wbufWords n.toNat))
      status := { s.status with
        allFf := decide (0 < n.toNat) && allFf (s.wbufWords n.toNat) } }.afterSuccess
          (BitVec.ofNat 32 (textLen (s.wbufWords n.toNat)))) :=
  congrArg _ (if_neg (Nat.not_lt.mpr h))

theorem exec_textDecode_of_gt (h : 128 < n.toNat) (s : State) :
    exec (.textDecode n) s = .next (s.afterError .count) := congrArg _ (if_pos h)

/-- ALL_FF of R196: a block that is not empty, with every word 0xFFFF. -/
theorem textAllFf_eq (ws : List Word) :
    (decide (0 < n.toNat) && allFf ws) = decide (n ≠ 0 ∧ ∀ v ∈ ws, v = 0xFFFF) := by
  have hn : 0 < n.toNat ↔ n ≠ 0 := Nat.pos_iff_ne_zero.trans (BitVec.toNat_inj (y := 0)).not
  rw [Bool.eq_iff_iff, Bool.and_eq_true, decide_eq_true_eq, decide_eq_true_eq, hn, allFf_iff]

end TextCommand

/-- Settles O44: the text ends at its first zero word, and its bytes are written from BUF[0] on. -/
theorem textDecodeResult : Obligations.TextDecodeResult := by
  refine ⟨fun _ _ => decode_command_of_opc, fun n s => ⟨fun hle => ?fits, fun hgt => exec_textDecode_of_gt hgt s⟩⟩
  have hwords : (s.wbufWords n.toNat).length = n.toNat := wbufWords_length s _
  have hend := textEnd_le (s.wbufWords n.toNat)
  obtain ⟨hinside, houtside⟩ := cellGet_cellsWrite_zero (textBytes (s.wbufWords n.toNat)) s.buf
  rw [textBytes_length, textLen_eq] at hinside houtside
  refine ⟨textEnd (s.wbufWords n.toNat), _, hend.trans_eq hwords, fun i hi => getElem?_ne_zero_of_lt_textEnd hi,
    fun hlt => getElem?_textEnd (hlt.trans_eq hwords.symm), fun i hi => ?bytes, houtside, ?runs⟩
  case bytes =>
    rw [hinside _ (by omega), hinside _ (by omega)]
    exact textBytes_getElem? hi
  case runs => rw [exec_textDecode_of_le hle, textLen_eq, textAllFf_eq]

end Sys2Proof.Machine

/-! PROOF. The device-level commands at the step that accepts them (44_device_ops.md R216 to R232): with its argument in
its domain each comes to `dev_accept` (R217) with its descriptor list, and else it is refused with its own error. -/

namespace Sys2Proof.Machine

/-! ### Channels -/

theorem channelOk_of_outside {ch : Byte} (h : ch.toNat = 0 ∨ 32 < ch.toNat) : channelOk ch = false := by
  rw [Bool.eq_false_iff, Ne, channelOk_iff]
  omega

/-- The register of a channel in a block of registers, as the statements number it (R213). -/
theorem ofNat_channel_register (base : Nat) (ch : Byte) (hbase : 1 ≤ base) :
    BitVec.ofNat 16 (base + ch.toNat - 1) = BitVec.ofNat 16 base + ch.setWidth 16 - 1 := by
  bv_omega

theorem voltAddr_eq (ch : Byte) : BitVec.ofNat 16 (0x8010 + ch.toNat - 1) = voltAddr ch :=
  ofNat_channel_register 0x8010 ch (by decide)

theorem thrAddr_eq (ch : Byte) : BitVec.ofNat 16 (0x8050 + ch.toNat - 1) = thrAddr ch :=
  ofNat_channel_register 0x8050 ch (by decide)

/-! ### The step that accepts the command -/

section Accept
variable {s : State} {i : Instr} {td : List TxnDesc} {d : TxnDesc}

theorem exec_readSingleVoltage (ch : Byte) (s : State) :
    exec (.readSingleVoltage ch) s = execReadSingleVoltage ch s := rfl

theorem exec_writeDeviceAddress (a : Word) (s : State) :
    exec (.writeDeviceAddress a) s = execWriteDeviceAddress a s := rfl

theorem exec_writeBaudRate (rate : Reg) (s : State) : exec (.writeBaudRate rate) s = execWriteBaudRate rate s := rfl

theorem exec_writeDropThreshold (ch : Byte) (x : Reg) (s : State) :
    exec (.writeDropThreshold ch x) s = execWriteDropThreshold ch x s := rfl

theorem devAccept_error (f : State → State) (e : CmdError) (tds : Byte → List TxnDesc) :
    s.devAccept f (.error e) tds = s.afterError e := rfl

theorem writeAccept_error (e : CmdError) (addr : Word) : s.writeAccept (.error e) addr = s.afterError e := rfl

theorem writeAccept_ok (v addr : Word) :
    s.writeAccept (.ok v) addr = s.devAccept State.keep (.ok ()) fun u => [writeDesc u addr [v]] := rfl

/-- With a session unit and the stream open, the unit is latched and transaction 0 starts (R217). -/
theorem devAccept_of_open (hvalid : s.session.valid = true) (hopen : s.link.isOpen = true) (f : State → State)
    {tds : Byte → List TxnDesc} (htds : tds s.session.unit = td) (hfirst : td[0]? = some d) :
    s.devAccept f (.ok ()) tds = { s with unit := s.session.unit }.afterStart td 0 d := by
  rw [State.devAccept, if_pos hvalid, htds]
  cases td with
  | nil => cases hfirst
  | cons e rest =>
    cases hfirst
    exact begin_of_open (s := { s with unit := s.session.unit }) hopen d rest

theorem devAccept_of_unset (hunset : s.session.valid = false) (f : State → State) (tds : Byte → List TxnDesc) :
    s.devAccept f (.ok ()) tds = s.afterError .sessionUnitUnset := if_neg (Bool.eq_false_iff.mp hunset)

/-- With its argument in its domain a device-level command passes its own checks and comes to `dev_accept`. -/
theorem exec_eq_devAccept (huses : usesSession i = true) (hdescs : descsOf s.session.unit i td) :
    ∃ f tds, exec i s = .next (s.devAccept f (.ok ()) tds) ∧ tds s.session.unit = td := by
  cases i with
  | readAllVoltages | readSnapshot => exact ⟨_, _, rfl, hdescs.symm⟩
  | readSingleVoltage ch =>
    obtain ⟨hch, rfl⟩ := hdescs
    exact ⟨_, _, by rw [exec_readSingleVoltage, execReadSingleVoltage, hch, require, if_pos rfl], rfl⟩
  | writeDeviceAddress a =>
    obtain ⟨hmin, hmax, rfl⟩ := hdescs
    exact ⟨_, _, by rw [exec_writeDeviceAddress, execWriteDeviceAddress, if_pos ⟨hmin, hmax⟩, writeAccept_ok], rfl⟩
  | writeIoDirection v | writeIoValue v | writeSetTemperature v =>
    exact ⟨_, _, congrArg _ (writeAccept_ok v _), hdescs.symm⟩
  | writeBaudRate rate =>
    obtain ⟨code, hcode, rfl⟩ := hdescs
    exact ⟨_, _, by rw [exec_writeBaudRate, execWriteBaudRate, hcode, writeAccept_ok], rfl⟩
  | writeDropThreshold ch x =>
    obtain ⟨hch, v, hv, rfl⟩ := hdescs
    exact ⟨_, _, by rw [exec_writeDropThreshold, execWriteDropThreshold, if_pos hch, hv, writeAccept_ok], rfl⟩
  | _ => cases huses

theorem exec_device_of_open (huses : usesSession i = true) (hvalid : s.session.valid = true)
    (hopen : s.link.isOpen = true) (hdescs : descsOf s.session.unit i td) (hfirst : td[0]? = some d) :
    exec i s = .next ({ s with unit := s.session.unit }.afterStart td 0 d) := by
  obtain ⟨f, tds, hexec, htds⟩ := exec_eq_devAccept huses hdescs
  rw [hexec, devAccept_of_open hvalid hopen f htds hfirst]

theorem exec_device_of_unset (huses : usesSession i = true) (hdescs : descsOf s.session.unit i td)
    (hunset : s.session.valid = false) : exec i s = .next (s.afterError .sessionUnitUnset) := by
  obtain ⟨f, tds, hexec, -⟩ := exec_eq_devAccept huses hdescs
  rw [hexec, devAccept_of_unset hunset]

end Accept

/-- Settles O47: each command's list is the one `dev_accept` is run with. -/
theorem deviceCommandsStart : Obligations.DeviceCommandsStart := by
  refine ⟨?reads, ?writes⟩
  case reads =>
    rintro s _ hvalid rfl hopen
    refine ⟨?all, ?single, ?snapshot⟩
    case all =>
      rintro _ rfl
      exact exec_device_of_open rfl hvalid hopen rfl rfl
    case single =>
      rintro ch hmin hmax _ rfl
      rw [voltAddr_eq]
      exact exec_device_of_open rfl hvalid hopen ⟨(channelOk_iff ch).mpr ⟨hmin, hmax⟩, rfl⟩ rfl
    case snapshot =>
      rintro _ d rfl hfirst
      exact exec_device_of_open rfl hvalid hopen rfl hfirst
  case writes =>
    rintro s _ started hvalid rfl hopen hstarted
    have hwrite {i : Instr} {addr : Nat} {v : Word} (huses : usesSession i = true)
        (hdescs : descsOf s.session.unit i [writeDesc s.session.unit (BitVec.ofNat 16 addr) [v]]) :
        exec i s = .next (started addr v) := by
      rw [hstarted addr v _ rfl]
      exact exec_device_of_open huses hvalid hopen hdescs rfl
    refine ⟨fun a hmin hmax => ?address, ?baud0, ?baud1, ?baud2, ?baud3, fun v => ?direction,
      fun v => ?io, fun v => ?temperature, fun ch x hmin hmax hlt => ?threshold⟩
    case address => exact hwrite rfl ⟨hmin, hmax, rfl⟩
    case baud0 | baud1 | baud2 | baud3 => exact hwrite rfl ⟨_, rfl, rfl⟩
    case direction | io | temperature => exact hwrite rfl rfl
    case threshold =>
      refine hwrite rfl ⟨(channelOk_iff ch).mpr ⟨hmin, hmax⟩, _, thrEncode_of_lt hlt, ?_⟩
      rw [thrAddr_eq]

/-- Settles O48: each argument check by its own error, and behind the checks the session test of `dev_accept`. -/
theorem deviceCommandsRefused : Obligations.DeviceCommandsRefused := by
  refine ⟨fun s => ⟨fun ch hout => ⟨?voltage, fun x => ?threshold⟩, fun a hout => ?address, fun rate hout => ?baud,
    fun ch x hmin hmax hge => ?value⟩, fun _ _ _ => exec_device_of_unset⟩
  case voltage =>
    rw [exec_readSingleVoltage, execReadSingleVoltage, channelOk_of_outside hout, require, if_neg Bool.false_ne_true,
      devAccept_error]
  case threshold =>
    rw [exec_writeDropThreshold, execWriteDropThreshold, channelOk_of_outside hout, if_neg Bool.false_ne_true,
      writeAccept_error]
  case address => rw [exec_writeDeviceAddress, execWriteDeviceAddress, if_neg (by omega), writeAccept_error]
  case baud => rw [exec_writeBaudRate, execWriteBaudRate, baudEncode_of_not_mem hout, writeAccept_error]
  case value =>
    rw [exec_writeDropThreshold, execWriteDropThreshold, if_pos ((channelOk_iff ch).mpr ⟨hmin, hmax⟩),
      thrEncode_of_ge hge, writeAccept_error]

end Sys2Proof.Machine

/-! PROOF. REG_LOOKUP and the register map (44_device_ops.md R210, R212). -/

namespace Sys2Proof.Machine

section Lookup
variable {id : Byte}

theorem exec_regLookup (id : Byte) (s : State) : exec (.regLookup id) s = execRegLookup id s := rfl

/-- RESULT packs the length and the address as MASK_DECODE packs its two words (R193). -/
theorem exec_regLookup_of_some {addr len : Word} (h : registerMap[id.toNat]? = some (addr, len)) (s : State) :
    exec (.regLookup id) s = .next (s.afterSuccess (maskDecode len addr)) := by
  rw [exec_regLookup, execRegLookup, h, ← complete_eq_afterSuccess, maskDecode]

theorem exec_regLookup_of_none (h : registerMap[id.toNat]? = none) (s : State) :
    exec (.regLookup id) s = .next (s.afterError .registerId) := by
  rw [exec_regLookup, execRegLookup, h, ← raise_eq_afterError]

theorem maskDecode_eq_ofNat (hw lw : Word) :
    maskDecode hw lw = BitVec.ofNat 32 (hw.toNat * 65536 + lw.toNat) := by
  rw [← maskDecode_toNat, BitVec.ofNat_toNat, BitVec.setWidth_eq]

end Lookup

/-- Settles O46: the statement's table is the map's as numbers, and the map has 17 entries. -/
theorem regLookupResult : Obligations.RegLookupResult := by
  refine ⟨fun _ _ => decode_command_of_opc, fun id s => ⟨fun addr len hentry => ?entry, fun hle => ?mapped,
    fun hgt => exec_regLookup_of_none (List.getElem?_eq_none hgt) s⟩⟩
  case entry =>
    change (registerMap.map fun e => (e.1.toNat, e.2.toNat))[id.toNat]? = _ at hentry
    rw [List.getElem?_map, Option.map_eq_some_iff] at hentry
    obtain ⟨⟨a, l⟩, hmap, hnumbers⟩ := hentry
    cases hnumbers
    rw [exec_regLookup_of_some hmap, maskDecode_eq_ofNat]
  case mapped => exact ⟨_, exec_regLookup_of_some (List.getElem?_eq_getElem (Nat.lt_succ_of_le hle)) s⟩

end Sys2Proof.Machine

/-! PROOF. No state stops the machine (60_exceptions.md R257, R259): the issue of a command, each agent's turn and the
step have a next state, as the meaning of every instruction has (`exec_next`). -/

namespace Sys2Proof.Machine

section NextState
variable (s : State)

/-- A command refused while BUSY (R24), run, or refused as unassigned (R84): each is an outcome in a next state. -/
theorem issue_next (c : Reg) : ∃ t, issue s c = .next t := by
  rcases issue_cases s c with ⟨-, heq⟩ | ⟨i, -, -, heq⟩ | ⟨e, -, -, heq⟩ <;> rw [heq]
  · exact ⟨_, rfl⟩
  · exact exec_next (s.accept c) i
  · exact ⟨_, rfl⟩

theorem takeInput_next (i : Input) : ∃ t, takeInput s i = .next t := by
  cases i with
  | hostWrite index v =>
    by_cases hcmd : hostCell index = .cmd
    · rw [takeInput, if_pos hcmd]
      exact issue_next s v
    · rw [takeInput, if_neg hcmd]
      exact ⟨_, rfl⟩
  | block => exact ⟨_, takeInput_block s⟩
  | hostRead | reset | linkReceive | linkDrain | linkOpen | linkRefuse | setTime => exact ⟨_, rfl⟩

end NextState

/-- Settles O8: with no input left the block takes the turn, and every turn has a next state. -/
theorem everyStepHasANextState : Obligations.EveryStepHasANextState := by
  intro s
  cases hin : s.inputs with
  | nil =>
    rw [step_of_inputs_nil s hin]
    exact takeInput_next s .block
  | cons i rest =>
    rw [step_of_inputs_cons hin]
    exact takeInput_next (s.nextTurn rest) i

end Sys2Proof.Machine

/-! PROOF. Reset (70_reset_and_hazards.md R280, R281): the values it gives, the step that takes it, and the invariant of
the state it leads to. -/

namespace Sys2Proof.Machine

theorem reset_vr_not_valid : ∀ e ∈ State.reset.vr.toList, e.valid = false := by
  intro e he
  simp only [State.reset, Vector.toList_replicate, List.mem_replicate] at he
  obtain ⟨-, rfl⟩ := he
  rfl

/-- LINK reads as the live input OPEN (R281). -/
theorem hostValue_link (s : State) : s.hostValue .link = some (if s.link.isOpen then 1 else 0) := by
  unfold State.hostValue
  cases s.link.isOpen <;> rfl

theorem takeReset_reset : State.reset.takeReset = State.reset := rfl

/-- Settles O11: no VR entry is valid, LINK shows OPEN, and every other value is the field's own. -/
theorem resetValues : Obligations.ResetValues :=
  ⟨rfl, rfl, rfl, rfl, rfl, rfl, rfl, rfl, rfl, rfl, rfl, rfl, rfl, rfl, rfl, reset_vr_not_valid, rfl, rfl,
    fun _ _ => hostValue_link _⟩

/-- Settles O12: the step takes reset's turn, whatever the state. -/
theorem resetAbortsAndClears : Obligations.ResetAbortsAndClears := fun _ _ hin => step_of_inputs_cons hin

/-- Settles O60: the state after reset is what reset makes of itself. -/
theorem resetHasTheInvariant : Obligations.ResetHasTheInvariant := by
  unfold Obligations.ResetHasTheInvariant
  rw [← takeReset_reset]
  exact takeReset_inv State.reset

end Sys2Proof.Machine

/-! PROOF. How many block steps a running command has left (70_reset_and_hazards.md R290, R291): each block step lowers
the bound or ends the command, and the turns of the other agents leave it as it is. -/

namespace Sys2Proof.Machine

section StepsLeft
variable {s t : State}

/-- The steps of the transactions after the one in flight. -/
def State.laterSteps (s : State) : Nat :=
  (s.td.length - (s.seq.idx.toNat + 1)) * (s.cfg.pollRetries.toNat + 3)

theorem stepsLeft_of_idle (h : s.status.state = .idle) : s.stepsLeft = 0 := by
  simp only [State.stepsLeft, h]

theorem stepsLeft_of_sending (h : s.status.state = .sending) :
    s.stepsLeft = s.laterSteps + (s.cfg.pollRetries.toNat + 3) := by
  simp only [State.stepsLeft, State.laterSteps, h]

theorem stepsLeft_of_awaiting (h : s.status.state = .awaiting) : s.stepsLeft = s.laterSteps + s.tr.r.toNat + 2 := by
  simp only [State.stepsLeft, State.laterSteps, h]

theorem stepsLeft_of_validating (h : s.status.state = .validating) : s.stepsLeft = s.laterSteps + 1 := by
  simp only [State.stepsLeft, State.laterSteps, h]

theorem stepsLeft_pos (h : s.status.state ≠ .idle) : 0 < s.stepsLeft := by
  cases hstate : s.status.state with
  | idle => exact absurd hstate h
  | sending => rw [stepsLeft_of_sending hstate]; omega
  | awaiting => rw [stepsLeft_of_awaiting hstate]; omega
  | validating => rw [stepsLeft_of_validating hstate]; omega

/-- The transaction in flight is one of the list, so that the steps of the whole list are its own and those after it. -/
theorem Running.stepsLeft_of_first (h : Running s) (hstate : s.status.state = .sending) (hidx : s.seq.idx = 0) :
    s.stepsLeft = s.td.length * (s.cfg.pollRetries.toNat + 3) := by
  obtain ⟨d, hd, -⟩ := h.current_ok
  have hlt := (List.getElem?_eq_some_iff.mp hd).1
  rw [stepsLeft_of_sending hstate, State.laterSteps, ← Nat.succ_mul]
  congr 1
  rw [hidx] at hlt ⊢
  exact Nat.succ_pred_eq_of_pos hlt

/-! ### Block steps -/

/-- The command has ended (R160). -/
def State.Ended (s : State) : Prop := s.status.state = .idle ∧ s.status.busy = false ∧ s.status.done = true

theorem endFail_ended (s : State) (f : State → State) (e : CmdError) (x : Byte) : (s.endFail f e x).Ended :=
  ⟨rfl, rfl, rfl⟩

theorem endOk_ended (s : State) : s.endOk.Ended := ⟨rfl, rfl, rfl⟩

/-- From `s` to `t` the bound falls, and the command still runs or has ended. -/
def Advances (s t : State) : Prop := t.stepsLeft < s.stepsLeft ∧ (t.status.busy = true ∨ t.Ended)

theorem advances_of_ended (hstate : s.status.state ≠ .idle) (h : t.Ended) : Advances s t := by
  refine ⟨?_, .inr h⟩
  rw [stepsLeft_of_idle h.1]
  exact stepsLeft_pos hstate

theorem sendStep_advances (hbusy : s.status.busy = true) (hstate : s.status.state = .sending) (frame : List Byte) :
    Advances s (s.sendStep frame) := by
  rcases s.sendStep_cases frame with ⟨-, -, heq⟩ | ⟨-, heq⟩ <;> rw [heq]
  · refine ⟨?_, .inl hbusy⟩
    rw [stepsLeft_of_sending hstate]
    exact Nat.lt_succ_self _
  · exact advances_of_ended (by simp [hstate]) (endFail_ended ..)

theorem pollStep_advances (hbusy : s.status.busy = true) (hstate : s.status.state = .awaiting) :
    Advances s s.pollStep := by
  have hbefore := stepsLeft_of_awaiting hstate
  rcases s.pollStep_cases with ⟨-, heq⟩ | ⟨-, -, heq⟩ | ⟨-, hr, heq⟩
  · have hafter : s.pollStep.stepsLeft = s.laterSteps + 1 := by
      rw [heq]
      exact stepsLeft_of_validating (by rfl)
    exact ⟨by omega, .inl (by rw [heq]; exact hbusy)⟩
  · rw [heq]
    exact advances_of_ended (by simp [hstate]) (endFail_ended ..)
  · have hfewer : (s.tr.r - 1).toNat < s.tr.r.toNat := by bv_omega
    have hafter : s.pollStep.stepsLeft = s.laterSteps + (s.tr.r - 1).toNat + 2 := by
      rw [heq]
      exact stepsLeft_of_awaiting (by exact hstate)
    exact ⟨by omega, .inl (by rw [heq]; exact hbusy)⟩

/-- The next transaction has the first share of the steps that were counted as later ones. -/
theorem Running.stepsLeft_loadTxn (h : Running s) {d : TxnDesc} (hd : s.td[s.seq.idx.toNat + 1]? = some d) :
    (s.loadTxn (s.seq.idx.toNat + 1) d).stepsLeft = s.laterSteps := by
  have hlt := (List.getElem?_eq_some_iff.mp hd).1
  have hidx : (BitVec.ofNat 8 (s.seq.idx.toNat + 1)).toNat = s.seq.idx.toNat + 1 := by
    have htotal := h.total
    rw [BitVec.toNat_ofNat]
    omega
  rw [stepsLeft_of_sending rfl, State.laterSteps, State.laterSteps, State.loadTxn_td, State.loadTxn_cfg,
    State.loadTxn_seq, hidx, ← Nat.succ_mul]
  congr 1
  omega

theorem validateStep_advances (hrun : Running s) (hstate : s.status.state = .validating) (rx : List Byte) :
    Advances s (s.validateStep rx) := by
  have hflight : s.status.state ≠ .idle := by simp [hstate]
  rcases s.validateStep_cases rx with ⟨e, x, -, heq⟩ | ⟨w, d, -, hd, heq⟩ | ⟨w, -, -, heq⟩ <;> rw [heq]
  · exact advances_of_ended hflight (endFail_ended ..)
  · rcases (s.stageWords s.seq.idx.toNat w).startTxn_cases State.onFailRunning (s.seq.idx.toNat + 1) d with
      ⟨-, heq⟩ | ⟨-, heq⟩ <;> rw [heq]
    · refine ⟨?_, .inl rfl⟩
      calc ((s.stageWords s.seq.idx.toNat w).loadTxn (s.seq.idx.toNat + 1) d).stepsLeft
        _ = s.laterSteps := hrun.stepsLeft_loadTxn hd
        _ < s.stepsLeft := by rw [stepsLeft_of_validating hstate]; exact Nat.lt_succ_self _
    · exact advances_of_ended hflight (endFail_ended ..)
  · exact advances_of_ended hflight (endOk_ended _)

theorem Inv.blockNext_advances (h : Inv s) (hbusy : s.status.busy = true) : Advances s s.blockNext := by
  have hrun := h.running hbusy
  cases hstate : s.status.state with
  | idle => exact absurd hstate (h.busy.mp hbusy)
  | sending =>
    simp only [State.blockNext, hstate, hrun.isExceptionFrame_txBytes]
    exact sendStep_advances hbusy hstate _
  | awaiting =>
    rw [blockNext_of_awaiting hstate]
    exact pollStep_advances hbusy hstate
  | validating =>
    rw [blockNext_of_validating hstate]
    exact validateStep_advances hrun hstate _

/-! ### The other agents' turns -/

/-- What a host access, a turn of the link, and a change of TIME can write while a command runs. -/
def State.withOutside (s : State) (fault : FaultBits) (link : Link) (time : BitVec 64) (rdata : Reg) : State :=
  { s with fault := fault, link := link, time := time, rdata := rdata }

/-- Every host write of a register or a buffer is refused while a command runs (60_exceptions.md R261). -/
theorem hostWrite_eq_withFault_of_busy (hbusy : s.status.busy = true) (c : HostCell) (v : Reg) :
    ∃ fault, s.hostWrite c v = { s with fault := fault } := by
  cases hro : c.readOnly with
  | true => exact ⟨_, hostWrite_of_readOnly hro⟩
  | false =>
    cases c with
    | cmd => exact ⟨s.fault, rfl⟩
    | arg | sessionUnit | cfgIfdMs | cfgPollRetries | cfgPollIntervalMs | cfgTimeoutMs | buf | wbuf =>
      exact ⟨_, writable_of_busy hbusy _⟩
    | bufLen =>
      by_cases hv : v.toNat ≤ 264
      · exact ⟨_, (hostWrite_bufLen_of_le hv).trans (writable_of_busy hbusy _)⟩
      · exact ⟨_, (hostWrite_bufLen_of_gt (by omega)).trans (writable_of_busy (s := s.badAccess) hbusy _)⟩
    | status | result | fault | link | txLen | rxCount | seq | txbuf | rxbuf | vr | snap | unmapped => cases hro

/-- While a command runs, a turn that is neither the block's nor reset leaves the block's own fields alone. -/
theorem takeInput_eq_withOutside_of_busy (hbusy : s.status.busy = true) {i : Input} (hblock : i ≠ .block)
    (hreset : i ≠ .reset) (h : takeInput s i = .next t) :
    ∃ fault link time rdata, t = s.withOutside fault link time rdata := by
  cases i with
  | block => exact absurd rfl hblock
  | reset => exact absurd rfl hreset
  | hostWrite index v =>
    dsimp only [takeInput] at h
    split at h
    · rw [issue_of_busy hbusy] at h
      cases h
      exact ⟨_, s.link, s.time, s.rdata, rfl⟩
    · cases h
      obtain ⟨fault, heq⟩ := hostWrite_eq_withFault_of_busy hbusy (hostCell index) v
      exact ⟨fault, s.link, s.time, s.rdata, heq⟩
  | hostRead index =>
    cases h
    dsimp only [State.hostRead]
    split
    · exact ⟨_, s.link, s.time, _, rfl⟩
    · exact ⟨s.fault, s.link, s.time, _, rfl⟩
  | linkReceive | linkDrain | linkOpen | linkRefuse => cases h; exact ⟨s.fault, _, s.time, s.rdata, rfl⟩
  | setTime v => cases h; exact ⟨s.fault, s.link, v, s.rdata, rfl⟩

/-! ### A run of block steps -/

theorem blockNext_inputs (s : State) : s.blockNext.inputs = s.inputs :=
  (congrArg State.inputs (blockNext_ignoresInputs s s.inputs) :)

/-- By recursion on the bound: a block step lowers it, so that the steps end with the command. -/
theorem Inv.exists_run_ended {s : State} (hinv : Inv s) (hin : s.inputs = []) (hbusy : s.status.busy = true) :
    ∃ n t, n ≤ s.stepsLeft ∧ Sys2Proof.core.run n s = .next t ∧ t.Ended := by
  have hstep := step_eq_blockNext hin
  obtain ⟨hlt, hbusy' | hended⟩ := hinv.blockNext_advances hbusy
  · obtain ⟨n, t, hn, hrun, hended⟩ :=
      (blockNext_inv hinv).exists_run_ended ((blockNext_inputs s).trans hin) hbusy'
    exact ⟨n + 1, t, Nat.lt_of_le_of_lt hn hlt, core_run_succ hstep hrun, hended⟩
  · exact ⟨1, s.blockNext, Nat.lt_of_le_of_lt (Nat.zero_le _) hlt, core_run_succ hstep rfl, hended⟩
termination_by s.stepsLeft

end StepsLeft

/-- Settles O34: the block's turn is a block step at a state with the same bound, and the other turns keep STATUS, SEQ,
TD, TR and the configuration. -/
theorem eachBlockStepLowersTheBound : Obligations.EachBlockStepLowersTheBound := by
  intro s t hinv hbusy hstep
  refine ⟨fun hturn => ?block, fun i rest hin hblock hreset => ?other⟩
  case block =>
    rcases hturn with hnil | hhead
    · rw [step_eq_blockNext hnil] at hstep
      cases hstep
      exact hinv.blockNext_advances hbusy
    · obtain ⟨rest, hin⟩ := List.head?_eq_some_iff.mp hhead
      rw [step_block hin] at hstep
      cases hstep
      exact (hinv.nextTurn rest).blockNext_advances hbusy
  case other =>
    rw [step_of_inputs_cons hin] at hstep
    obtain ⟨fault, link, time, rdata, rfl⟩ :=
      takeInput_eq_withOutside_of_busy (s := s.nextTurn rest) hbusy hblock hreset hstep
    exact ⟨hbusy, rfl⟩

/-- Settles O33: the run that ends the command is by recursion on the bound, and at the start the bound is that of the
whole list. -/
theorem commandEndsWithinItsBound : Obligations.CommandEndsWithinItsBound := fun _ hinv hin hbusy =>
  ⟨hinv.exists_run_ended hin hbusy, (hinv.running hbusy).stepsLeft_of_first⟩

end Sys2Proof.Machine
